-- ==== Sys2Proof/Word.lean ====
section
/-! DEFINITION. The words of the station: bytes, line bits, addresses, classes. -/

namespace Sys2Proof

/-- A byte of the configuration image, of a monitor image, or of the line count. -/
abbrev Byte := BitVec 8

/-- One bit of the share line or of a serial port. On the line `false` is dominant (value 0) and
`true` is recessive (value 1) (R81). -/
abbrev Bit := Bool

/-- The dominant line state, a bit of value 0 (R81). -/
abbrev dominant : Bit := false

/-- The recessive line state, a bit of value 1 (R81). -/
abbrev recessive : Bit := true

/-- A station address, 0 to 31 (00_scope.md 1.5). -/
abbrev Address := Fin 32

/-- A class, 0 to 3, of which 3 is the highest (00_scope.md 1.5). -/
abbrev StationClass := Fin 4

/-- A level of the demand pins, 0 to 15 (R104). -/
abbrev DemandLevel := Fin 16

/-- A converter code, 0 to 4095 (R136). -/
abbrev ConverterCode := Fin 4096

end Sys2Proof
end

