-- ==== Sys2Proof/Syntax.lean ====
section
/-! DEFINITION. The commands of the station: one constructor per row of spec/opcode_table.json. The
table gives the rows no operands; the operands here carry what the command reads from outside the
station (log 5). -/

namespace Sys2Proof

/-- The three resets (R157). -/
inductive ResetCause where
  | power | brownout | pin
deriving DecidableEq, Repr

/-- What the loader reads on SDA before an attempt (R161): high at once; high after `pulses + 1`
clearing pulses, one to nine; or low still after the ninth. -/
inductive SdaReading where
  | high
  | highAfter (pulses : Fin 9)
  | stuckLow
deriving DecidableEq, Repr

/-- The byte of an attempt that the memory does not acknowledge: steps 2, 3 and 5 of R160. -/
inductive AckPoint where
  | writeAddress | location | readAddress
deriving DecidableEq, Repr

/-- Where in TAIL a dominant bit is read (R90). -/
inductive TailField where
  | endField | interframe
deriving DecidableEq, Repr

/-- A command: one step of the station's environment. -/
inductive Instr where
  /-- RESET (R157): a reset of this kind comes into force. -/
  | reset (cause : ResetCause)
  /-- RESET_END (R158): the last cause in force ends. -/
  | resetEnd
  /-- CLOCK_READY (R147): the clock is ready; the straps and what SDA reads. -/
  | clockReady (address : Address) (cls : StationClass) (sda : SdaReading)
  /-- ATTEMPT_FAILED (R161): the memory does not acknowledge this byte. -/
  | attemptFailed (at_ : AckPoint)
  /-- RETRY_WAIT_EXPIRY (R161): the 10 ms wait ends, with what SDA reads. -/
  | retryWaitExpiry (sda : SdaReading)
  /-- ATTEMPT_COMPLETE (R162): the data bits read on SDA, in the order of the port (R160). -/
  | attemptComplete (bits : List Bit)
  /-- BUS_IDLE (R88): the bits read since SEEK was entered. -/
  | busIdle (bits : List Bit)
  /-- START_OPPORTUNITY (R114). -/
  | startOpportunity
  /-- ARBITRATION_LOST (R91): the bits read back from SOF on, the last one dominant for recessive. -/
  | arbitrationLost (bits : List Bit)
  /-- BIT_ERROR (R92): the bits read back from SOF on, the last one differing from the bit sent. -/
  | bitError (bits : List Bit)
  /-- BIT_ERROR_WATCH_END (R92): the bits read after the bit error. -/
  | bitErrorWatchEnd (bits : List Bit)
  /-- FORMAT_ERROR (R94): the bits read since the receive shift state of State, to the error. -/
  | formatError (bits : List Bit)
  /-- JAM_RECOGNISED (R86): the bits read since the receive shift state of State, to the tenth
  dominant one. -/
  | jamRecognised (bits : List Bit)
  /-- JAM_END (R94). -/
  | jamEnd
  /-- TAIL_DOMINANT (R90). -/
  | tailDominant (field : TailField)
  /-- FRAME_RECEIVED (R96): the bits read since the receive shift state of State, to the last CRC bit. -/
  | frameReceived (bits : List Bit)
  /-- FRAME_CONFIRMED (R97): the DISSENT slot reads recessive; what the ACK slot read. -/
  | frameConfirmed (ackSlot : Bit)
  /-- FRAME_VOID (R98): DISSENT dominant, first End bit recessive; what the ACK slot read. -/
  | frameVoid (ackSlot : Bit)
  /-- FRAME_JAMMED (R98): DISSENT and the first End bit dominant. -/
  | frameJammed
  /-- TICK (R9). -/
  | tick
  /-- SILENCE_LIMIT_REACHED (R71). -/
  | silenceLimitReached
  /-- ANNOUNCE_TIMER_EXPIRY (R70). -/
  | announceTimerExpiry
  /-- WINDOW_CLOSE (R68). -/
  | windowClose
  /-- HORIZON_EXPIRY (R80). -/
  | horizonExpiry
  /-- IDLE_TIMER_EXPIRY (R148). -/
  | idleTimerExpiry
  /-- LISTEN_ENTRY (R149). -/
  | listenEntry
  /-- DORMANT_TIMER_EXPIRY (R153). -/
  | dormantTimerExpiry
  /-- DORMANT_ENTRY (R154). -/
  | dormantEntry
  /-- WAKE (R155): the demand pins, and whether NINH is high. -/
  | wake (demand : DemandLevel) (ninhHigh : Bool)
  /-- WAKE_CLOCK_READY (R156). -/
  | wakeClockReady
  /-- DEMAND_SAMPLE (R104): the demand pins, and whether NINH is high. -/
  | demandSample (demand : DemandLevel) (ninhHigh : Bool)
  /-- PERIOD_BOUNDARY (R131): how long the ramp timer has run, in units of 0.125 µs, where it started
  in the period that ends here. It is the whole period where it started in the moment in which that
  period began, after its boundary; where it did not start in that period nothing looks at it (log 9),
  and it may be left out. -/
  | periodBoundary (sinceStart : Nat := 0)
  /-- CONVERSION_READY (R136): the code of the conversion in progress. -/
  | conversionReady (code : ConverterCode)
  /-- LOCKOUT_EXPIRY (R141). -/
  | lockoutExpiry
  /-- SAG_HOLD_EXPIRY (R145). -/
  | sagHoldExpiry
  /-- NCS_FALL (R165). -/
  | ncsFall
  /-- NCS_RISE (R165). -/
  | ncsRise
  /-- STATUS (R167): the command byte 0x11 is complete. -/
  | status
  /-- ENTRY (R167): the command byte 0x12 and this address are complete. -/
  | entry (address : Address)
  /-- COUNTERS (R167): the command byte 0x13 is complete. -/
  | counters
  /-- EVENTS (R169): the command byte 0x14 is complete. -/
  | events
  /-- CLEAR (R170): the command byte 0x1C is complete. -/
  | clear
  /-- UNKNOWN_COMMAND (R166): an unknown command byte, or 0x12 with an address byte above 31. -/
  | unknownCommand (command : Byte) (address : Option Byte)
  /-- SOF_READ (R88): a dominant bit is read in READY. -/
  | sofRead
  /-- INTERFRAME_END (R90). -/
  | interframeEnd
  /-- ON_TIME_ELAPSED (R131). -/
  | onTimeElapsed
  /-- SCK_EDGE (R165): a rising or a falling edge, and the level of MOSI. -/
  | sckEdge (rising : Bool) (mosi : Bit)
deriving DecidableEq, Repr

end Sys2Proof
end

