-- ==== Sys2Proof/Decode.lean ====
section
/-! DEFINITION. Commands spelled by bits of spec/opcode_table.json. No row of that table gives a
command any bits (98_reader.md counts none), so no word spells one. -/

namespace Sys2Proof

/-- The command a word of the table's bits spells: none, whatever the word. -/
def decodeTableWord (_nbits _w : Nat) : Option Instr := none

end Sys2Proof
end

