-- ==== Sys2Proof/Config.lean ====
section
/-! DEFINITION. What one station's configuration fixes (R163), and the one value the spec leaves open. -/

namespace Sys2Proof

/-- The settled values of R163, in the order of the configuration image (R175). -/
structure Settings where
  /-- Feeder capacity in units, 1 to 255. -/
  budget : Nat
  /-- Highest level of the load, 1 to 15. -/
  maxLevel : Nat
  /-- Units one level costs, 1 to 15. -/
  unitsPerLevel : Nat
  /-- Level below which peers cannot shed the station, 0 to `maxLevel`. -/
  floorLevel : Nat
  /-- PWM code, 0 to 3 (R130). -/
  pwmCode : Fin 4
  /-- Line rate code, 0 to 3 (R82). -/
  rateCode : Fin 4
  /-- The announce period P in ticks, 5 to 250. -/
  announcePeriod : Nat
  /-- Least time between two rises of the output level, in ms, 1 to 255. -/
  rampStep : Nat
  /-- ISENSE codes per unit of holding, 1 to 255. -/
  currentScale : Nat
  /-- Overdraw margin in steps of four codes, 0 to 255. -/
  overdrawMargin : Nat
  /-- VSENSE threshold in steps of sixteen codes, 0 to 255. -/
  sagThreshold : Nat
  /-- Sag hold time in steps of 10 ms, 1 to 255. -/
  sagHoldTime : Nat
  /-- Overdraw lockout time in steps of 100 ms, 1 to 255. -/
  lockoutTime : Nat
  /-- Idle delay in seconds, 0 for never. -/
  idleDelay : Nat
  /-- Dormant delay in seconds, 0 for never. -/
  dormantDelay : Nat
deriving DecidableEq, Repr

/-- What the ranges of R163 ask of settled values beside the checks of R162: the widest fields of the
configuration image (R175). -/
structure Settings.FitsImage (c : Settings) : Prop where
  budget : c.budget ≤ 255
  maxLevel : c.maxLevel ≤ 15
  unitsPerLevel : c.unitsPerLevel ≤ 15
  rampStep : c.rampStep ≤ 255
  currentScale : c.currentScale ≤ 255
  overdrawMargin : c.overdrawMargin ≤ 255
  sagThreshold : c.sagThreshold ≤ 255
  sagHoldTime : c.sagHoldTime ≤ 255
  lockoutTime : c.lockoutTime ≤ 255
  idleDelay : c.idleDelay ≤ 255
  dormantDelay : c.dormantDelay ≤ 255

/-- Stands where no settled values exist (R158): all zero, so that a level computed from it is 0. No
block that depends on the configuration runs while it is unloaded. -/
def Settings.unloaded : Settings :=
  { budget := 0, maxLevel := 0, unitsPerLevel := 0, floorLevel := 0, pwmCode := 0, rateCode := 0
    announcePeriod := 0, rampStep := 0, currentScale := 0, overdrawMargin := 0, sagThreshold := 0
    sagHoldTime := 0, lockoutTime := 0, idleDelay := 0, dormantDelay := 0 }

/-- DESIGN CHOICE (log 7), safe: whether LEN is active while a reset is in force. R157 lists the pins of a held
station and LEN is not among them. -/
opaque Config.lenWhileReset : Bool

end Sys2Proof
end

