-- ==== Sys2Proof/Machine/State.lean ====
section
/-! DEFINITION. The state of the station, block by block as 00_scope.md 1.2 lists them, and the
state right after reset. -/

namespace Sys2Proof.Machine

/-! ### The grant table (R1) -/

/-- Whether the station at an address takes part, in this table's view (R2). -/
inductive Presence where
  | absent | unknown | present
deriving DecidableEq, Repr

/-- A debt record (R1): units owed to the creditor they were shed from. -/
structure DebtRecord where
  creditor : Address
  units : Nat
deriving DecidableEq, Repr

/-- One row of the grant table (R1). The debt stack is written oldest first. -/
structure Entry where
  presence : Presence
  cls : StationClass
  floor : Nat
  want : Nat
  holding : Nat
  debts : List DebtRecord
  age : Nat
deriving DecidableEq, Repr

/-- An entry that is not PRESENT is cleared (R10). -/
def Entry.cleared (p : Presence) : Entry :=
  { presence := p, cls := 0, floor := 0, want := 0, holding := 0, debts := [], age := 0 }

/-- The grant table: one entry per address (R1). -/
abbrev Table := Vector Entry 32

/-- The table of START and SLEEP: every entry ABSENT (R20). -/
def Table.allAbsent : Table := Vector.replicate 32 (Entry.cleared .absent)

/-! ### Frames (R84, R172) -/

/-- A victim entry of a CLAIM: units taken from a station. -/
structure Victim where
  victim : Address
  units : Nat
deriving DecidableEq, Repr

/-- A settlement entry of a RELEASE: units settled against a creditor and given to it. -/
structure Settlement where
  creditor : Address
  settled : Nat
  given : Nat
deriving DecidableEq, Repr

/-- The five kinds of frame, in the order of their kind codes (R84). -/
inductive FrameKind where
  | sag | evict | release | claim | announce
deriving DecidableEq, Repr

/-- What a frame of each kind carries (R172). Lists keep the order of the line. -/
inductive Payload where
  | sag
  | evict (addresses : List Address)
  | release (want decrement : Nat) (settlements : List Settlement)
  | claim (want increment : Nat) (victims : List Victim)
  | announce (rejoin : Bool) (floor want holding : Nat) (debts : List DebtRecord)
deriving DecidableEq, Repr

/-- The kind of a payload. -/
def Payload.kind : Payload → FrameKind
  | .sag => .sag
  | .evict _ => .evict
  | .release _ _ _ => .release
  | .claim _ _ _ => .claim
  | .announce _ _ _ _ _ => .announce

/-- A frame: the fields of the identifier other than the kind, the line count and the payload (R84). -/
structure Frame where
  rank : Fin 4
  wait : Fin 4
  sender : Address
  lineCount : Byte
  payload : Payload
deriving DecidableEq, Repr

/-- A receiver's check of a frame (R43). -/
inductive Verdict where
  | agree | disagree
deriving DecidableEq, Repr

/-! ### The Share Line Interface (R88, R112) -/

/-- The line position (R88). -/
inductive LinePosition where
  | off | seek | ready | frame | jam | tail
deriving DecidableEq, Repr

/-- The station's part in the frame on the line: it follows none, sends (R89), receives (R88), or
watches the dominant run after its own bit error (R92). -/
inductive Role where
  | none | sender | receiver | watching
deriving DecidableEq, Repr

/-- What TXD carries (R81, R96): nothing (high), the own frame's bits, a slot, or the jam (low). -/
inductive LineDrive where
  | none | ownFrame | ackSlot | dissentSlot | jam
deriving DecidableEq, Repr

/-- The receive shift state and the jam detector (R84 to R86): the frame bits taken so far, oldest
first, edge bits stripped; the last line bit; the dominant run, edge bits included; whether the next
line bit is an edge bit; whether an edge-bit violation is pending. -/
structure Rx where
  bits : List Bit
  last : Bit
  run : Nat
  edgeDue : Bool
  pending : Bool
deriving DecidableEq, Repr

/-- The receive shift state before the SOF bit. -/
def Rx.start : Rx := { bits := [], last := recessive, run := 0, edgeDue := false, pending := false }

/-- An ANNOUNCE request is marked plain or rejoin (R112). -/
inductive AnnounceKind where
  | plain | rejoin
deriving DecidableEq, Repr

/-- The outbox: at most one standing request of each kind (R112). -/
structure Outbox where
  sag : Bool
  evict : Bool
  release : Bool
  claim : Bool
  announce : Option AnnounceKind
deriving DecidableEq, Repr

/-- The outbox with no request in it (R119). -/
def Outbox.empty : Outbox :=
  { sag := false, evict := false, release := false, claim := false, announce := none }

/-- What the Share Line Interface holds. -/
structure LineInterface where
  position : LinePosition
  role : Role
  /-- The own frame, fixed at SOF (R51). -/
  tx : Option Frame
  /-- The line bits of the own frame from SOF to the last CRC bit, edge bits in their places (R85). -/
  txBits : List Bit
  rx : Rx
  /-- The frame received to its last CRC bit without a format error, waiting for its outcome (R96). -/
  received : Option Frame
  verdict : Option Verdict
  drive : LineDrive
  /-- The recessive run counted in SEEK (R88). -/
  idleRun : Nat
  /-- The line fault count (R100). -/
  faultCount : Nat
  outbox : Outbox
deriving DecidableEq, Repr

/-- The Share Line Interface after reset (R81, R88, R100, R112). -/
def LineInterface.reset : LineInterface :=
  { position := .off, role := .none, tx := none, txBits := [], rx := Rx.start, received := none,
    verdict := none, drive := .none, idleRun := 0, faultCount := 0, outbox := Outbox.empty }

/-! ### Reset and the Configuration Loader (R157 to R162) -/

/-- Whether a reset is in force, and the recorded cause (R157). -/
structure ResetUnit where
  inForce : Bool
  cause : ResetCause
deriving DecidableEq, Repr

/-- The load status (R158). -/
inductive LoadStatus where
  | waiting | reading | settled | failed
deriving DecidableEq, Repr

/-- Where the loader stands on the two-wire port (R160, R161). -/
inductive PortPhase where
  | idle | attempt | retryWait
deriving DecidableEq, Repr

/-- The levels of the two-wire port between two changes (R160): SCL, and for SDA, which is open drain,
whether the station and whether the memory leave it high. -/
structure PortLevels where
  scl : Bit
  station : Bit
  memory : Bit
deriving DecidableEq, Repr

/-- SDA reads low wherever the station or the memory pulls it low (R160). -/
def PortLevels.sda (p : PortLevels) : Bit := p.station && p.memory

/-- Both lines released (R157). -/
def PortLevels.released : PortLevels := { scl := true, station := true, memory := true }

/-- The strap record (R158, R159). -/
structure StrapRecord where
  address : Address
  cls : StationClass
  sampled : Bool
deriving DecidableEq, Repr

/-- What the Configuration Loader holds. -/
structure Loader where
  straps : StrapRecord
  /-- The image buffer, fifteen bytes (R158). -/
  image : List Byte
  attempts : Nat
  status : LoadStatus
  port : PortPhase
  /-- The levels that the two-wire port has shown in the present attempt, oldest first; the last are
  those it shows (R160, log 24). -/
  wire : List PortLevels
deriving DecidableEq, Repr

/-- The Configuration Loader after reset (R158). -/
def Loader.reset : Loader :=
  { straps := { address := 0, cls := 0, sampled := false }, image := List.replicate 15 0,
    attempts := 0, status := .waiting, port := .idle, wire := [] }

/-! ### The Participation Unit (R56) -/

/-- The two phases of GATHER (R56). -/
inductive GatherPhase where
  | window | rejoin
deriving DecidableEq, Repr

/-- The three causes of HALTED (R56). -/
inductive HaltCause where
  | config | conflict | budget
deriving DecidableEq, Repr

/-- The participation state, with the phase of GATHER and the cause of HALTED (R56). -/
inductive Participation where
  | start
  | gather (phase : GatherPhase)
  | active
  | mute
  | sleep
  | halted (cause : HaltCause)
deriving DecidableEq, Repr

/-- The horizon timer: counting from 0 towards 2P, or expired (R79). -/
inductive Horizon where
  | counting (ticks : Nat)
  | expired
deriving DecidableEq, Repr

/-- What the Participation Unit holds (R56). -/
structure ParticipationUnit where
  state : Participation
  windowTimer : Nat
  announceTimer : Nat
  horizon : Horizon
  /-- The note re-announce pending (R72). -/
  reannouncePending : Bool
  /-- The note evicted in MUTE (R75). -/
  evictedInMute : Bool
deriving DecidableEq, Repr

/-- The Participation Unit after reset (R56). -/
def ParticipationUnit.reset : ParticipationUnit :=
  { state := .start, windowTimer := 0, announceTimer := 0, horizon := .expired,
    reannouncePending := false, evictedInMute := false }

/-! ### The Demand Unit (R104, R105, R111) -/

/-- What the Demand Unit holds, less the want, which R106 computes from it. -/
structure DemandUnit where
  /-- The debounced demand level. -/
  level : DemandLevel
  /-- The value of the latest sample. -/
  lastSample : DemandLevel
  /-- How many consecutive samples have shown that value. -/
  sameCount : Nat
  /-- The INHIBIT state: true for active. -/
  inhibit : Bool
  /-- How many consecutive samples have shown NINH high, counted to 3. -/
  highCount : Nat
  patience : Nat
deriving DecidableEq, Repr

/-- The Demand Unit after reset (R104, R105, R111). The latest sample is DESIGN CHOICE 0 (log 22). -/
def DemandUnit.reset : DemandUnit :=
  { level := 0, lastSample := 0, sameCount := 0, inhibit := true, highCount := 0, patience := 0 }

/-! ### The Load Drive (R123) -/

/-- The ramp timer (R128): stopped; started within the present period, or at its boundary once that
had been taken; or running, with the time it stood at when the present period began, in units of
0.125 µs (log 9). -/
inductive RampTimer where
  | stopped
  | started
  | running (time : Nat)
deriving DecidableEq, Repr

/-- A PWM period in progress (R130, R131): its on-time, and the time elapsed in it at its last event
(log 31), both in units of 0.125 µs. -/
structure Period where
  onTime : Nat
  elapsed : Nat
deriving DecidableEq, Repr

/-- What the Load Drive holds (R123). -/
structure LoadDrive where
  output : Nat
  ramp : RampTimer
  period : Option Period
  /-- The GATE pin: true for high. -/
  gate : Bool
deriving DecidableEq, Repr

/-- The Load Drive after reset (R123). -/
def LoadDrive.reset : LoadDrive := { output := 0, ramp := .stopped, period := none, gate := false }

/-! ### The Sense Unit (R135) -/

/-- A conversion in progress (R136), with whether a cut has fallen since an ISENSE sampling began
(R139). -/
inductive Conversion where
  | isense (cutSince : Bool)
  | vsense
deriving DecidableEq, Repr

/-- The converter (R135): unpowered, within the first 20 µs of power, idle, or converting. -/
inductive Converter where
  | unpowered | settling | idle
  | converting (c : Conversion)
deriving DecidableEq, Repr

/-- What the Sense Unit holds (R135). A running timer holds the configured time it was started at. -/
structure SenseUnit where
  converter : Converter
  schedule : Nat
  limit : Option Nat
  overdrawRun : Nat
  blanking : Nat
  sagRun : Nat
  /-- The lockout timer, in steps of 100 ms (R140). -/
  lockout : Option Nat
  /-- The sag hold timer, in steps of 10 ms (R143). -/
  sagHold : Option Nat
deriving DecidableEq, Repr

/-- The Sense Unit after reset (R135). -/
def SenseUnit.reset : SenseUnit :=
  { converter := .unpowered, schedule := 0, limit := none, overdrawRun := 0, blanking := 0,
    sagRun := 0, lockout := none, sagHold := none }

/-! ### Power Control (R147) -/

/-- The power state (R147). -/
inductive PowerState where
  | run | listen | dormant
deriving DecidableEq, Repr

/-- What Power Control holds (R147). -/
structure PowerControl where
  state : PowerState
  idleTimer : Nat
  dormantTimer : Nat
  clockReady : Bool
deriving DecidableEq, Repr

/-- Power Control after reset (R147). -/
def PowerControl.reset : PowerControl :=
  { state := .run, idleTimer := 0, dormantTimer := 0, clockReady := false }

/-! ### The Monitor Port (R165 to R170) -/

/-- The eight event flags (R168). -/
structure EventFlags where
  shed : Bool
  repaid : Bool
  evicted : Bool
  overdraw : Bool
  sag : Bool
  mute : Bool
  gather : Bool
  halt : Bool
deriving DecidableEq, Repr

/-- All flags clear (R168). -/
def EventFlags.clear : EventFlags :=
  { shed := false, repaid := false, evicted := false, overdraw := false, sag := false,
    mute := false, gather := false, halt := false }

/-- The eight counters, in the order of R170. -/
structure Counters where
  framesConfirmed : Nat
  framesVoid : Nat
  ownConfirmed : Nat
  dissentsDriven : Nat
  timesShed : Nat
  overdrawTrips : Nat
  localSags : Nat
  evictEntries : Nat
deriving DecidableEq, Repr

/-- All counters 0 (R170). -/
def Counters.zero : Counters :=
  { framesConfirmed := 0, framesVoid := 0, ownConfirmed := 0, dissentsDriven := 0, timesShed := 0,
    overdrawTrips := 0, localSags := 0, evictEntries := 0 }

/-- A command the port has taken (R166). -/
inductive MonitorCommand where
  | status | entry (address : Address) | counters | events | clear | unknown
deriving DecidableEq, Repr

/-- A transaction in progress (R165): the bits clocked in until a command is taken, the command
taken, and the reply bits not yet shifted out. -/
structure Transaction where
  received : List Bit
  taken : Option MonitorCommand
  reply : List Bit
deriving DecidableEq, Repr

/-- What the Monitor Port holds. -/
structure MonitorPort where
  flags : EventFlags
  counters : Counters
  /-- The NCS pin: true for low. -/
  ncsLow : Bool
  transaction : Option Transaction
  snapshot : List Byte
  /-- The MISO pin. -/
  miso : Bit
deriving DecidableEq, Repr

/-- The Monitor Port after reset (R165, R168, R170). NCS high is DESIGN CHOICE (log 6). -/
def MonitorPort.reset : MonitorPort :=
  { flags := EventFlags.clear, counters := Counters.zero, ncsLow := false, transaction := none,
    snapshot := [], miso := true }

/-! ### The station -/

/-- The whole station, and the queue of commands waiting for it. -/
structure State where
  rst : ResetUnit
  loader : Loader
  /-- The settled configuration, or none while it is unloaded (R158, R163). -/
  config : Option Settings
  table : Table
  /-- The line count: adopted with its value, or unadopted (R59). -/
  lineCount : Option Byte
  line : LineInterface
  part : ParticipationUnit
  demand : DemandUnit
  drive : LoadDrive
  sense : SenseUnit
  power : PowerControl
  monitor : MonitorPort
  /-- The commands waiting, first in, first out (log 2). -/
  pending : List Instr
deriving DecidableEq, Repr

/-- No command faults (log 32): the spec gives the station no fault that stops it; HALTED is a
participation state. -/
inductive Fault where
deriving DecidableEq, Repr

/-- Why a command could be refused. -/
inductive Refusal where
  /-- Raised by an arm of `exec` whose command has no meaning in this model yet. No arm is so. Safe. -/
  | notModelled (mnemonic : String)
deriving DecidableEq, Repr

/-- The station right after a power-on reset has ended (R158): every block at its value after reset,
the configuration unloaded and the clock starting. The cause POWER is DESIGN CHOICE (log 6). -/
def State.reset : State :=
  { rst := { inForce := false, cause := .power }
    loader := Loader.reset
    config := none
    table := Table.allAbsent
    lineCount := none
    line := LineInterface.reset
    part := ParticipationUnit.reset
    demand := DemandUnit.reset
    drive := LoadDrive.reset
    sense := SenseUnit.reset
    power := PowerControl.reset
    monitor := MonitorPort.reset
    pending := [] }

end Sys2Proof.Machine
end

