-- ==== Sys2Proof/Machine/Flags.lean ====
section
/-! DEFINITION. The event flags (R168) and the counters (R170): raising and counting. -/

namespace Sys2Proof.Machine

/-- The names of the eight event flags (R168). -/
inductive EventFlag where
  | shed | repaid | evicted | overdraw | sag | mute | gather | halt
deriving DecidableEq, Repr

/-- A flag is set; one already set stays set (R168). -/
def EventFlags.raise (f : EventFlags) : EventFlag → EventFlags
  | .shed => { f with shed := true }
  | .repaid => { f with repaid := true }
  | .evicted => { f with evicted := true }
  | .overdraw => { f with overdraw := true }
  | .sag => { f with sag := true }
  | .mute => { f with mute := true }
  | .gather => { f with gather := true }
  | .halt => { f with halt := true }

/-- Whether at least one flag is set (R168). -/
def EventFlags.any (f : EventFlags) : Bool :=
  f.shed || f.repaid || f.evicted || f.overdraw || f.sag || f.mute || f.gather || f.halt

/-- The EVENTS byte (R174): SHED bit 7 down to HALT bit 0. -/
def EventFlags.bits (f : EventFlags) : List Bit :=
  [f.shed, f.repaid, f.evicted, f.overdraw, f.sag, f.mute, f.gather, f.halt]

/-- The names of the eight counters (R170). -/
inductive CounterName where
  | framesConfirmed | framesVoid | ownConfirmed | dissentsDriven | timesShed | overdrawTrips
  | localSags | evictEntries
deriving DecidableEq, Repr

/-- A count risen by `n`, to no more than 65535 (R170). -/
def risen (count n : Nat) : Nat := min 65535 (count + n)

/-- A counter rises by `n` (R170). -/
def Counters.rise (c : Counters) (n : Nat) : CounterName → Counters
  | .framesConfirmed => { c with framesConfirmed := risen c.framesConfirmed n }
  | .framesVoid => { c with framesVoid := risen c.framesVoid n }
  | .ownConfirmed => { c with ownConfirmed := risen c.ownConfirmed n }
  | .dissentsDriven => { c with dissentsDriven := risen c.dissentsDriven n }
  | .timesShed => { c with timesShed := risen c.timesShed n }
  | .overdrawTrips => { c with overdrawTrips := risen c.overdrawTrips n }
  | .localSags => { c with localSags := risen c.localSags n }
  | .evictEntries => { c with evictEntries := risen c.evictEntries n }

/-- The station raises an event flag. -/
def State.raise (s : State) (f : EventFlag) : State :=
  { s with monitor := { s.monitor with flags := s.monitor.flags.raise f } }

/-- The station raises an event flag where a condition holds. -/
def State.raiseIf (s : State) (c : Bool) (f : EventFlag) : State := if c then s.raise f else s

/-- The station adds `n` to a counter. -/
def State.count (s : State) (c : CounterName) (n : Nat) : State :=
  { s with monitor := { s.monitor with counters := s.monitor.counters.rise n c } }

end Sys2Proof.Machine
end

