-- ==== Sys2Proof/Machine/GrantTable.lean ====
section
/-! DEFINITION. The grant table's derived quantities and named operations (chapter 1, and R29 to R41
of chapter 2): each is a function of a table and says nothing of the rest of the station. -/

namespace Sys2Proof.Machine

/-! ### Reading and writing entries -/

/-- The entry at an address. -/
def Table.at (t : Table) (a : Address) : Entry := t[a]

/-- The table with one entry replaced. -/
def Table.put (t : Table) (a : Address) (e : Entry) : Table := t.set a.val e a.isLt

/-- The table with every entry passed through `f`. -/
def Table.each (t : Table) (f : Address → Entry → Entry) : Table := Vector.ofFn fun a => f a (t.at a)

/-- Whether an entry is PRESENT. -/
def Entry.isPresent (e : Entry) : Bool := e.presence == .present

/-- The 32 addresses. -/
def addresses : List Address := List.finRange 32

/-! ### Derived quantities (R11 to R13) -/

/-- What an entry adds to the sum of holdings: its holding where PRESENT (R11). -/
def Entry.share (e : Entry) : Nat := if e.isPresent then e.holding else 0

/-- The sum of the holdings of the PRESENT entries (R11, R22). -/
def Table.held (t : Table) : Nat := (addresses.map fun a => (t.at a).share).sum

/-- Free: the budget less the sum of the PRESENT holdings (R11). -/
def Table.free (t : Table) (budget : Nat) : Nat := budget - t.held

/-- The units of a debt stack. -/
def owed (debts : List DebtRecord) : Nat := (debts.map (·.units)).sum

/-- How many records of an entry name `a` as creditor, where the entry is PRESENT (R12). -/
def Entry.naming (e : Entry) (a : Address) : Nat :=
  if e.isPresent then e.debts.countP (fun d => d.creditor == a) else 0

/-- The shed depth of an address (R12). -/
def Table.shedDepth (t : Table) (a : Address) : Nat :=
  (addresses.map fun x => (t.at x).naming a).sum

/-- The excess of an entry: its holding less its floor, 0 where it is not PRESENT (R13). -/
def Entry.excess (e : Entry) : Nat := if e.isPresent then e.holding - e.floor else 0

/-- How many entries are PRESENT (R166). -/
def Table.presentCount (t : Table) : Nat := addresses.countP fun a => (t.at a).isPresent

/-! ### Debt stacks (R5 to R8) -/

/-- Trimming from the oldest end by a number of units (R7). -/
def trimBy : Nat → List DebtRecord → List DebtRecord
  | _, [] => []
  | n, d :: ds =>
    if d.units ≤ n then trimBy (n - d.units) ds
    else { d with units := d.units - n } :: ds

/-- A stack trimmed until its units are no more than the holding (R7). -/
def trimTo (holding : Nat) (debts : List DebtRecord) : List DebtRecord :=
  if owed debts ≤ holding then debts else trimBy (owed debts - holding) debts

/-- Whether a push onto `owner`'s stack is made (R5): not of zero units, not naming the owner, an
ABSENT creditor, or one that four records already name. -/
def Table.pushMade (t : Table) (owner creditor : Address) (units : Nat) : Bool :=
  units != 0 && creditor != owner && (t.at creditor).presence != .absent &&
    decide (t.shedDepth creditor < 4)

/-- A push at the newest end, the oldest record removed first from a full stack (R5, log 19). -/
def Table.push (t : Table) (owner creditor : Address) (units : Nat) : Table :=
  if t.pushMade owner creditor units then
    t.put owner { t.at owner with
      debts := (t.at owner).debts.drop ((t.at owner).debts.length - 3) ++
        [{ creditor := creditor, units := units }] }
  else t

/-- Every record naming `x` removed from every entry (R8). -/
def Table.forgive (t : Table) (x : Address) : Table :=
  t.each fun _ e => { e with debts := e.debts.filter fun d => d.creditor != x }

/-! ### Victims (R29, R30) -/

/-- The eligible victims of claimant `d` of class `c` (R29). -/
def Table.eligible (t : Table) (d : Address) (c : StationClass) : List Address :=
  addresses.filter fun a =>
    (t.at a).isPresent && a != d && decide ((t.at a).cls < c) && decide (t.shedDepth a < 4) &&
      decide (0 < (t.at a).excess)

/-- Victim order (R29): lower class, then larger excess, then higher address. -/
def Table.victimBefore (t : Table) (a b : Address) : Bool :=
  decide ((t.at a).cls < (t.at b).cls) ||
    ((t.at a).cls == (t.at b).cls &&
      (decide ((t.at b).excess < (t.at a).excess) ||
        ((t.at a).excess == (t.at b).excess && decide (b ≤ a))))

/-- The considered victims: the first four eligible entries in victim order (R29). -/
def Table.considered (t : Table) (d : Address) (c : StationClass) : List Address :=
  ((t.eligible d c).insertionSort fun a b => t.victimBefore a b = true).take 4

/-- The sheddable units for claimant `d` of class `c` (R29). -/
def Table.sheddable (t : Table) (d : Address) (c : StationClass) : Nat :=
  ((t.considered d c).map fun a => (t.at a).excess).sum

/-- Units taken from victims in order, each giving the lesser of its excess and what is still needed
(R30). -/
def Table.takeFrom (t : Table) : Nat → List Address → List Victim
  | _, [] => []
  | need, a :: rest =>
    if need = 0 then []
    else
      { victim := a, units := min (t.at a).excess need } ::
        t.takeFrom (need - min (t.at a).excess need) rest

/-- The victim list of a claim of increment `n` (R30): first from free, then from the victims. -/
def Table.victimList (t : Table) (budget : Nat) (d : Address) (c : StationClass) (n : Nat) :
    List Victim :=
  t.takeFrom (n - t.free budget) (t.considered d c)

/-! ### CLAIM (R31, R32, R62) -/

/-- A listed victim loses units, down to no less than 0, and its stack is trimmed; a victim that is
not PRESENT is passed over (R31, R62). -/
def Table.lose (t : Table) (v : Victim) : Table :=
  let e := t.at v.victim
  if e.isPresent then
    t.put v.victim { e with holding := e.holding - v.units
                            debts := trimTo (e.holding - v.units) e.debts }
  else t

/-- The application of a CLAIM: the victims first, then a PRESENT claimant's holding, want and
records (R31, R32, R62). -/
def Table.applyClaim (t : Table) (d : Address) (want n : Nat) (victims : List Victim) : Table :=
  let t1 := victims.foldl Table.lose t
  let e := t1.at d
  if e.isPresent then
    victims.foldl (fun u v => u.push d v.victim v.units)
      (t1.put d { e with holding := e.holding + n, want := want })
  else t1

/-! ### Settlement (R34 to R37) -/

/-- What a settlement walk leaves: the table with the creditors' gifts, the settlement list, and the
debtor's remaining records, newest first. -/
structure Walk where
  table : Table
  list : List Settlement
  left : List DebtRecord
deriving DecidableEq, Repr

/-- The room of a creditor: its table want less its holding, 0 where it is not PRESENT (R34). A gift
to the address in `keepOut` is dropped (R64 to R66). -/
def Table.room (t : Table) (keepOut : Option Address) (c : Address) : Nat :=
  if (t.at c).isPresent && keepOut != some c then (t.at c).want - (t.at c).holding else 0

/-- A creditor's holding raised by a gift. -/
def Table.give (t : Table) (c : Address) (units : Nat) : Table :=
  t.put c { t.at c with holding := (t.at c).holding + units }

/-- The walk of R34 over records newest first, with an amount remaining. -/
def walk (keepOut : Option Address) : Table → Nat → List DebtRecord → Walk
  | t, _, [] => { table := t, list := [], left := [] }
  | t, n, d :: ds =>
    if n = 0 then { table := t, list := [], left := d :: ds }
    else
      let s := min d.units n
      let g := min s (t.room keepOut d.creditor)
      let w := walk keepOut (if g = 0 then t else t.give d.creditor g) (n - s) ds
      { table := w.table
        list := { creditor := d.creditor, settled := s, given := g } :: w.list
        left := if d.units = s then w.left else { d with units := d.units - s } :: w.left }

/-- The walk of debtor `d`'s stack for an amount (R34). -/
def Table.walkOf (t : Table) (keepOut : Option Address) (d : Address) (n : Nat) : Walk :=
  walk keepOut t n (t.at d).debts.reverse

/-- The settlement list of a release of `k` units by `d` (R34). -/
def Table.settlementList (t : Table) (d : Address) (k : Nat) : List Settlement :=
  (t.walkOf none d k).list

/-- The debtor's entry after a walk: its holding less the amount, its remaining records. -/
def Table.settled (t : Table) (keepOut : Option Address) (d : Address) (k : Nat) : Table :=
  let w := t.walkOf keepOut d k
  w.table.put d { w.table.at d with holding := (w.table.at d).holding - k
                                    debts := w.left.reverse }

/-- The application of a RELEASE in ACTIVE (R34). -/
def Table.applyRelease (t : Table) (d : Address) (want k : Nat) : Table :=
  let u := t.settled none d k
  u.put d { u.at d with want := want }

/-- A full-release settlement of entry `x` (R37). -/
def Table.fullRelease (t : Table) (keepOut : Option Address) (x : Address) : Table :=
  t.settled keepOut x (t.at x).holding

/-- Whether a settlement list gives a station one or more units (R35). -/
def givesTo (a : Address) (list : List Settlement) : Bool :=
  list.any fun s => s.creditor == a && decide (0 < s.given)

/-! ### EVICT (R38, R64) -/

/-- One named address of an EVICT (R38, R64): a PRESENT entry is settled in full, the records naming
it are removed and it becomes ABSENT; an UNKNOWN one becomes ABSENT and the records naming it are
removed; an ABSENT one is passed over. -/
def Table.evict (t : Table) (keepOut : Option Address) (x : Address) : Table :=
  match (t.at x).presence with
  | .present => ((t.fullRelease keepOut x).forgive x).put x (Entry.cleared .absent)
  | .unknown => (t.forgive x).put x (Entry.cleared .absent)
  | .absent => t

/-- What an EVICT does as a whole: the table, how many entries went from PRESENT to ABSENT, and
whether a settlement gave the station at `own` units. -/
structure Eviction where
  table : Table
  count : Nat
  gave : Bool
deriving DecidableEq, Repr

/-- One named address more. -/
def Eviction.next (keepOut : Option Address) (own : Address) (v : Eviction) (x : Address) :
    Eviction :=
  if (v.table.at x).isPresent then
    { table := v.table.evict keepOut x
      count := v.count + 1
      gave := v.gave ||
        givesTo own (v.table.walkOf keepOut x (v.table.at x).holding).list }
  else { v with table := v.table.evict keepOut x }

/-- The named addresses in frame order, each completing before the next (R38). -/
def Table.evictAll (t : Table) (keepOut : Option Address) (own : Address) (xs : List Address) :
    Eviction :=
  xs.foldl (Eviction.next keepOut own) { table := t, count := 0, gave := false }

/-! ### ANNOUNCE (R40, R41, R65) -/

/-- A class from a frame's rank: 3 minus the rank (R3). -/
def classOfRank (rank : Fin 4) : StationClass := ⟨3 - rank.val, by omega⟩

/-- The application of a plain ANNOUNCE in ACTIVE: a PRESENT entry takes the want; any other becomes
PRESENT at holding 0 (R16, R40). -/
def Table.applyPlain (t : Table) (f : Frame) (floor want : Nat) : Table :=
  if (t.at f.sender).isPresent then t.put f.sender { t.at f.sender with want := want }
  else
    t.put f.sender { presence := .present, cls := classOfRank f.rank, floor := floor, want := want,
                     holding := 0, debts := [], age := 0 }

/-- The application of a rejoin ANNOUNCE (R41): a PRESENT sender is settled in full, the records
naming it are removed, and it is PRESENT at holding 0. -/
def Table.applyRejoin (t : Table) (keepOut : Option Address) (f : Frame) (floor want : Nat) : Table :=
  let t1 := if (t.at f.sender).isPresent then t.fullRelease keepOut f.sender else t
  (t1.forgive f.sender).put f.sender
    { presence := .present, cls := classOfRank f.rank, floor := floor, want := want, holding := 0,
      debts := [], age := 0 }

/-- The application of a plain ANNOUNCE in GATHER (R65): the entry is taken whole from the frame; a
record is copied where R5 makes the push (log 18), and the stack is trimmed. -/
def Table.gatherPlain (t : Table) (f : Frame) (floor want holding : Nat) (debts : List DebtRecord) :
    Table :=
  let t1 := t.put f.sender { presence := .present, cls := classOfRank f.rank, floor := floor
                             want := want, holding := holding, debts := [], age := 0 }
  let t2 := debts.foldl (fun u r => u.push f.sender r.creditor r.units) t1
  t2.put f.sender { t2.at f.sender with debts := trimTo holding (t2.at f.sender).debts }

/-! ### RELEASE in GATHER (R63) -/

/-- The newest record naming `c` that has not been reduced loses `s` units (R63). Records are newest
first, each with whether it has been reduced; a record that reaches 0 is removed. R63 does not say
whether a record met by an entry of 0 settled units counts as reduced: that it does is the model's
DESIGN CHOICE, safe (log 8). -/
def reduceNewest (c : Address) (s : Nat) : List (DebtRecord × Bool) → List (DebtRecord × Bool)
  | [] => []
  | (d, done) :: ds =>
    if d.creditor = c ∧ done = false then
      if d.units ≤ s then ds else ({ d with units := d.units - s }, true) :: ds
    else (d, done) :: reduceNewest c s ds

/-- A debtor's stack after a settlement list met in GATHER (R63). -/
def reduceAll (list : List Settlement) (debts : List DebtRecord) : List DebtRecord :=
  ((list.foldl (fun ds x => reduceNewest x.creditor x.settled ds)
    (debts.reverse.map fun d => (d, false))).map (·.1)).reverse

/-- A given amount met in GATHER: taken by a PRESENT creditor other than the own entry (R63). -/
def Table.gatherGift (own : Address) (t : Table) (x : Settlement) : Table :=
  if (t.at x.creditor).isPresent && x.creditor != own then t.give x.creditor x.given else t

/-- The application of a RELEASE in GATHER (R63). -/
def Table.gatherRelease (t : Table) (own d : Address) (want k : Nat) (list : List Settlement) :
    Table :=
  let e := t.at d
  let t1 :=
    if e.isPresent then
      t.put d { e with holding := e.holding - k, want := want
                       debts := trimTo (e.holding - k) (reduceAll list e.debts) }
    else t
  list.foldl (Table.gatherGift own) t1

/-! ### Silence ages and the life of entries (R9, R18, R19) -/

/-- The sender's silence age set to 0 (R9). -/
def Table.heard (t : Table) (a : Address) : Table := t.put a { t.at a with age := 0 }

/-- A tick: the silence age of every PRESENT entry rises by 1, to no more than 65535 (R9). -/
def Table.aged (t : Table) : Table :=
  t.each fun _ e => if e.isPresent then { e with age := min 65535 (e.age + 1) } else e

/-- GATHER entry: every entry other than the own one becomes UNKNOWN and is cleared; the own one is
kept, or made ABSENT where the station was evicted in MUTE (R18, R60). -/
def Table.forGather (t : Table) (own : Address) (evicted : Bool) : Table :=
  t.each fun a e =>
    if a = own then (if evicted then Entry.cleared .absent else e) else Entry.cleared .unknown

/-- The close of the window: every UNKNOWN entry becomes ABSENT, and the records naming it are removed
from the others (R19). -/
def Table.closed (t : Table) : Table :=
  t.each fun _ e =>
    if e.presence = .unknown then Entry.cleared .absent
    else { e with debts := e.debts.filter fun d => (t.at d.creditor).presence != .unknown }

/-- The PRESENT peers whose silence age is at or above a limit (R71). -/
def Table.silent (t : Table) (own : Address) (limit : Nat) : List Address :=
  addresses.filter fun a => (t.at a).isPresent && a != own && decide (limit ≤ (t.at a).age)

/-- The list of an EVICT (R71): largest silence age first, lower address first among equals, up to
four. -/
def Table.evictList (t : Table) (own : Address) (limit : Nat) : List Address :=
  ((t.silent own limit).insertionSort fun a b =>
    (t.at b).age < (t.at a).age ∨ ((t.at a).age = (t.at b).age ∧ a ≤ b)).take 4

/-! ### The checks of a frame (R45 to R49) -/

/-- The content check of a frame against a table (R45 to R49). -/
def Table.contentAgrees (t : Table) (budget : Nat) (f : Frame) : Bool :=
  let e := t.at f.sender
  match f.payload with
  | .sag => true
  | .evict xs => !xs.contains f.sender
  | .release want k list =>
    e.isPresent && e.cls == classOfRank f.rank && k != 0 && decide (k ≤ e.holding) &&
      want == e.holding - k && list == t.settlementList f.sender k
  | .claim want n victims =>
    e.isPresent && e.cls == classOfRank f.rank && n != 0 && decide (e.holding + n ≤ want) &&
      decide (n ≤ t.free budget + t.sheddable f.sender (classOfRank f.rank)) &&
      victims == t.victimList budget f.sender (classOfRank f.rank) n
  | .announce true _ _ _ _ => true
  | .announce false floor _ holding debts =>
    if e.isPresent then
      e.cls == classOfRank f.rank && floor == e.floor && holding == e.holding && debts == e.debts
    else holding == 0 && debts.isEmpty

/-! ### The whole application of a frame's kind -/

/-- What an application does: the table, whether the own entry was given units, how many entries an
EVICT took from PRESENT to ABSENT. -/
structure Applied where
  table : Table
  repaid : Bool
  evicted : Nat
deriving DecidableEq, Repr

/-- The application of a confirmed frame in ACTIVE (R26, R31 to R42), less the sender's silence age. -/
def Table.applyActive (t : Table) (own : Address) (f : Frame) : Applied :=
  match f.payload with
  | .sag => { table := t, repaid := false, evicted := 0 }
  | .evict xs =>
    let v := t.evictAll none own xs
    { table := v.table, repaid := v.gave, evicted := v.count }
  | .release want k list =>
    { table := t.applyRelease f.sender want k, repaid := givesTo own list, evicted := 0 }
  | .claim want n victims =>
    { table := t.applyClaim f.sender want n victims, repaid := false, evicted := 0 }
  | .announce true floor want _ _ =>
    { table := t.applyRejoin none f floor want
      repaid := (t.at f.sender).isPresent &&
        givesTo own (t.walkOf none f.sender (t.at f.sender).holding).list
      evicted := 0 }
  | .announce false floor want _ _ =>
    { table := t.applyPlain f floor want, repaid := false, evicted := 0 }

/-- The application of a confirmed frame in GATHER (R62 to R66), less the sender's silence age. -/
def Table.applyGather (t : Table) (own : Address) (f : Frame) : Applied :=
  match f.payload with
  | .sag => { table := t, repaid := false, evicted := 0 }
  | .evict xs =>
    let v := t.evictAll (some own) own xs
    { table := v.table, repaid := false, evicted := v.count }
  | .release want k list =>
    { table := t.gatherRelease own f.sender want k list, repaid := false, evicted := 0 }
  | .claim want n victims =>
    { table := t.applyClaim f.sender want n victims, repaid := false, evicted := 0 }
  | .announce true floor want _ _ =>
    { table := t.applyRejoin (some own) f floor want, repaid := false, evicted := 0 }
  | .announce false floor want holding debts =>
    { table := t.gatherPlain f floor want holding debts, repaid := false, evicted := 0 }

end Sys2Proof.Machine
end

