-- ==== Sys2Proof/Machine/Operands.lean ====
section
/-! DEFINITION. What the bits of a command say: fields and checksums, the layout of a frame on the
line (R84 to R87, R172, R173), the receive shift state, a sender's read-back, and the run counts. -/

namespace Sys2Proof.Machine

/-! ### Fields and checksums -/

/-- The `w` low bits of `n`, most significant first (00_scope.md 1.6). -/
def bitsOf : Nat → Nat → List Bit
  | 0, _ => []
  | w + 1, n => n.testBit w :: bitsOf w n

/-- The number a run of bits spells, most significant first. -/
def natOf (bits : List Bit) : Nat := bits.foldl (fun n b => 2 * n + b.toNat) 0

/-- A byte's bits, most significant first. -/
def byteBits (b : Byte) : List Bit := bitsOf 8 b.toNat

/-- A run of bits as bytes, eight at a time; a rest of fewer than eight is left. -/
def bytesOf : List Bit → List Byte
  | a :: b :: c :: d :: e :: f :: g :: h :: rest =>
      BitVec.ofNat 8 (natOf [a, b, c, d, e, f, g, h]) :: bytesOf rest
  | _ => []

/-- One bit into the CRC register of R87, generator x^16 + x^12 + x^5 + 1. -/
def crc16Step (r : BitVec 16) (b : Bit) : BitVec 16 :=
  if (b ^^ r.msb) then (r <<< 1) ^^^ 0x1021 else r <<< 1

/-- The CRC of R87, from a register of all ones. -/
def crc16 (bits : List Bit) : BitVec 16 := bits.foldl crc16Step 0xFFFF

/-- One bit into the CRC-8 register of R162, generator x^8 + x^2 + x + 1. -/
def crc8Step (r : BitVec 8) (b : Bit) : BitVec 8 :=
  if (b ^^ r.msb) then (r <<< 1) ^^^ 0x07 else r <<< 1

/-- The CRC-8 of R162 and R174 over bytes, byte 0 first, from a register of 0. -/
def crc8 (bytes : List Byte) : Byte := (bytes.flatMap byteBits).foldl crc8Step 0

/-! ### Payloads (R172, R173) -/

/-- An address byte carries the address in bits 4 to 0 (R172). -/
def addressByte (a : Address) : Byte := BitVec.ofNat 8 a.val

/-- The address in bits 4 to 0 of a byte; the other bits are not regarded (R172). -/
def byteAddress (b : Byte) : Address := ⟨b.toNat % 32, Nat.mod_lt _ (by decide)⟩

/-- A byte of units. -/
def unitByte (n : Nat) : Byte := BitVec.ofNat 8 n

/-- The kind code of R84. -/
def FrameKind.code : FrameKind → Nat
  | .sag => 0
  | .evict => 1
  | .release => 2
  | .claim => 3
  | .announce => 4

def victimBytes (v : Victim) : List Byte := [addressByte v.victim, unitByte v.units]

def settlementBytes (x : Settlement) : List Byte :=
  [addressByte x.creditor, unitByte x.settled, unitByte x.given]

def debtBytes (d : DebtRecord) : List Byte := [addressByte d.creditor, unitByte d.units]

/-- The payload of a frame (R172). -/
def payloadBytes : Payload → List Byte
  | .sag => []
  | .evict addresses => addresses.map addressByte
  | .release want decrement settlements =>
      unitByte want :: unitByte decrement :: BitVec.ofNat 8 settlements.length ::
        settlements.flatMap settlementBytes
  | .claim want increment victims =>
      unitByte want :: unitByte increment :: BitVec.ofNat 8 victims.length ::
        victims.flatMap victimBytes
  | .announce rejoin floor want holding debts =>
      BitVec.ofNat 8 ((if rejoin then 128 else 0) + debts.length) :: unitByte floor ::
        unitByte want :: unitByte holding :: debts.flatMap debtBytes

def victimsFrom : List Byte → List Victim
  | a :: u :: rest => { victim := byteAddress a, units := u.toNat } :: victimsFrom rest
  | _ => []

def settlementsFrom : List Byte → List Settlement
  | a :: s :: g :: rest =>
      { creditor := byteAddress a, settled := s.toNat, given := g.toNat } :: settlementsFrom rest
  | _ => []

def debtsFrom : List Byte → List DebtRecord
  | a :: u :: rest => { creditor := byteAddress a, units := u.toNat } :: debtsFrom rest
  | _ => []

/-- The count of bits 2 to 0 of a count byte (R172). -/
def countField (b : Byte) : Nat := b.toNat % 8

/-- The payload that bytes spell under a kind code, or none where the kind code is 5 to 7, a count is
above 4, or the length does not agree with the kind (R173). -/
def decodePayload (code : Nat) (bytes : List Byte) : Option Payload :=
  match code with
  | 0 => if bytes = [] then some .sag else none
  | 1 => if 1 ≤ bytes.length ∧ bytes.length ≤ 4 then some (.evict (bytes.map byteAddress)) else none
  | 2 =>
    match bytes with
    | w :: k :: c :: rest =>
      if countField c ≤ 4 ∧ rest.length = 3 * countField c then
        some (.release w.toNat k.toNat (settlementsFrom rest))
      else none
    | _ => none
  | 3 =>
    match bytes with
    | w :: n :: c :: rest =>
      if countField c ≤ 4 ∧ rest.length = 2 * countField c then
        some (.claim w.toNat n.toNat (victimsFrom rest))
      else none
    | _ => none
  | 4 =>
    match bytes with
    | h :: f :: w :: o :: rest =>
      if countField h ≤ 4 ∧ rest.length = 2 * countField h then
        some (.announce (h.toNat.testBit 7) f.toNat w.toNat o.toNat (debtsFrom rest))
      else none
    | _ => none
  | _ => none

/-! ### The frame on the line (R84, R85, R87) -/

/-- The frame bits the CRC covers: from the first identifier bit to the last payload bit (R87). -/
def coveredBits (f : Frame) : List Bit :=
  bitsOf 3 f.payload.kind.code ++ bitsOf 2 f.rank.val ++ bitsOf 2 f.wait.val ++
    bitsOf 5 f.sender.val ++ byteBits f.lineCount ++ bitsOf 4 (payloadBytes f.payload).length ++
    (payloadBytes f.payload).flatMap byteBits

/-- The frame bits from SOF to the last CRC bit (R84). -/
def frameBits (f : Frame) : List Bit :=
  dominant :: (coveredBits f ++ bitsOf 16 (crc16 (coveredBits f)).toNat)

/-- Edge bits among frame bits: after every eighth, its complement (R85). `n` frame bits went before. -/
def withEdges : Nat → List Bit → List Bit
  | _, [] => []
  | n, b :: bs =>
    if (n + 1) % 8 = 0 then b :: (!b) :: withEdges (n + 1) bs else b :: withEdges (n + 1) bs

/-- The line bits of a frame from SOF to the last CRC bit (R84, R85). -/
def lineBits (f : Frame) : List Bit := withEdges 0 (frameBits f)

/-- How many frame bits a frame has, once its length field is known (R84). -/
def frameLength (bits : List Bit) : Nat := 41 + 8 * natOf ((bits.drop 21).take 4)

/-- The frame that stripped frame bits spell, or none for a CRC mismatch, a kind code of 5 to 7, or
a length that does not agree (R93). -/
def parseFrame (bits : List Bit) : Option Frame :=
  if crc16 ((bits.drop 1).take (bits.length - 17)) =
      BitVec.ofNat 16 (natOf (bits.drop (bits.length - 16))) then
    match decodePayload (natOf ((bits.drop 1).take 3))
        (bytesOf ((bits.drop 25).take (bits.length - 41))) with
    | some p =>
      some { rank := Fin.ofNat 4 (natOf ((bits.drop 4).take 2))
             wait := Fin.ofNat 4 (natOf ((bits.drop 6).take 2))
             sender := Fin.ofNat 32 (natOf ((bits.drop 8).take 5))
             lineCount := BitVec.ofNat 8 (natOf ((bits.drop 13).take 8))
             payload := p }
    | none => none
  else none

/-! ### The receive shift state and the jam detector (R85, R86, R93) -/

/-- What a line bit brings a receiver to. -/
inductive RxEvent where
  | more
  | formatError
  | jam
  | complete (f : Frame)
deriving DecidableEq, Repr

/-- The receive shift state after one line bit: an edge bit is stripped, any other is a frame bit. -/
def Rx.take (r : Rx) (b : Bit) : Rx :=
  if r.edgeDue then
    { r with last := b, run := if b then 0 else r.run + 1, edgeDue := false
             pending := r.pending || (b == dominant && r.last == dominant) }
  else
    { r with bits := r.bits ++ [b], last := b, run := if b then 0 else r.run + 1
             edgeDue := (r.bits.length + 1) % 8 == 0 }

/-- What the bit `b` read in state `r` brings. A run of ten is a jam. A recessive bit ends a pending
violation as a format error, and an edge bit that is recessive where it should be dominant is one at
once (R86). At the last CRC bit a pending violation is one, and the frame is checked (R93). -/
def Rx.event (r : Rx) (b : Bit) : RxEvent :=
  if 10 ≤ (r.take b).run then .jam
  else if r.pending && b == recessive then .formatError
  else if r.edgeDue then
    if b == recessive && r.last == recessive then .formatError else .more
  else if 25 ≤ (r.take b).bits.length ∧ (r.take b).bits.length = frameLength (r.take b).bits then
    if r.pending then .formatError
    else match parseFrame (r.take b).bits with
      | some f => .complete f
      | none => .formatError
  else .more

/-- Line bits into the receive shift state, up to the first that brings something. -/
def readBits : Rx → List Bit → Rx × RxEvent
  | r, [] => (r, .more)
  | r, b :: bs =>
    match r.event b with
    | .more => readBits (r.take b) bs
    | e => (r.take b, e)

/-- The receive shift state once the SOF bit has been read (R88). -/
def Rx.afterSof : Rx := Rx.start.take dominant

/-! ### A sender's read-back (R91, R92) -/

/-- What a sender finds in the bits it reads back: nothing yet, a lost arbitration, or a bit error
on a bit sent dominant or on a bit sent recessive. -/
inductive ReadBack where
  | same
  | lostArbitration
  | errorOnDominant
  | errorOnRecessive
deriving DecidableEq, Repr

/-- Whether line bit `i`, SOF being 0, is an identifier bit: 1 to 13 less the edge bit at 8 (R85). -/
def isIdentifierBit (i : Nat) : Bool := decide (1 ≤ i) && decide (i ≤ 13) && i != 8

/-- The bits sent against the bits read back, from line bit `i` on; the last bit read is the one in
question (R91, R92). -/
def readBack : Nat → List Bit → List Bit → ReadBack
  | i, t :: ts, r :: rs =>
    if t = r then readBack (i + 1) ts rs
    else if rs ≠ [] then .same
    else if t = dominant then .errorOnDominant
    else if isIdentifierBit i then .lostArbitration
    else .errorOnRecessive
  | _, _, _ => .same

/-! ### Run counts (R86, R88) -/

/-- The dominant run after more bits (R86). -/
def dominantRun (run : Nat) (bits : List Bit) : Nat :=
  bits.foldl (fun n b => if b then 0 else n + 1) run

/-- How a watch on the dominant run stands (R92). -/
inductive WatchEnd where
  | goesOn | jam | ownError
deriving DecidableEq, Repr

/-- The watch of R92: it ends as a jam when the run reaches ten, and as an own error at a recessive
bit before. -/
def watchEnd : Nat → List Bit → WatchEnd
  | run, [] => if 10 ≤ run then .jam else .goesOn
  | run, b :: bs => if 10 ≤ run then .jam else if b then .ownError else watchEnd (run + 1) bs

/-- The recessive run after more bits: a dominant bit restarts it at 0 (R88). -/
def idleRunAfter (run : Nat) (bits : List Bit) : Nat :=
  bits.foldl (fun n b => if b then n + 1 else 0) run

/-! ### Line timing constants (R82, R130) -/

/-- A bit time in units of 0.125 µs, by line rate code (R82). -/
def bitTime (rateCode : Fin 4) : Nat :=
  match rateCode with
  | 0 => 128
  | 1 => 64
  | 2 => 32
  | 3 => 16

/-- A PWM period in units of 0.125 µs, by PWM code (R130). -/
def periodTime (pwmCode : Fin 4) : Nat :=
  match pwmCode with
  | 0 => 8000
  | 1 => 4000
  | 2 => 2000
  | 3 => 1000

/-- A millisecond in units of 0.125 µs. -/
def millisecond : Nat := 8000

end Sys2Proof.Machine
end

