-- ==== Sys2Proof/Machine/Ops.lean ====
section
/-! DEFINITION. The named operations over the station that the commands share: the quantities
computed from State, the Load Drive's reaction to its limits, the outbox, the Demand Unit's decision,
and the moves between participation and power states. -/

namespace Sys2Proof.Machine

/-! ### Quantities computed from State -/

/-- The settled values. -/
def State.cfg (s : State) : Settings := s.config.getD Settings.unloaded

/-- The station's own address, from the strap record (R159). -/
def State.own (s : State) : Address := s.loader.straps.address

/-- The own entry (R1). -/
def State.ownEntry (s : State) : Entry := s.table.at s.own

/-- The own holding: 0 where the own entry is not PRESENT (R4). -/
def State.ownHolding (s : State) : Nat := s.ownEntry.share

/-- The own allowed level (R14). -/
def State.allowedLevel (s : State) : Nat := min (s.ownHolding / s.cfg.unitsPerLevel) s.cfg.maxLevel

/-- The want level (R106). -/
def State.wantLevel (s : State) : Nat :=
  if s.demand.inhibit || s.sense.lockout.isSome then 0 else min s.demand.level.val s.cfg.maxLevel

/-- The want units (R106). -/
def State.wantUnits (s : State) : Nat := s.wantLevel * s.cfg.unitsPerLevel

/-- The floor units (R163). -/
def State.floorUnits (s : State) : Nat := s.cfg.floorLevel * s.cfg.unitsPerLevel

/-- The own shed depth (R12). -/
def State.ownShedDepth (s : State) : Nat := s.table.shedDepth s.own

/-- The station is ACTIVE with power RUN. -/
def State.activeRun (s : State) : Bool := s.part.state == .active && s.power.state == .run

/-- The station is in either phase of GATHER. -/
def Participation.isGather : Participation → Bool
  | .gather _ => true
  | _ => false

/-- The station is HALTED, whatever the cause. -/
def Participation.isHalted : Participation → Bool
  | .halted _ => true
  | _ => false

/-- A reset is not in force and the clock runs: the station takes bits, ticks and samples (R147, R157). -/
def State.clocked (s : State) : Bool := !s.rst.inForce && s.power.clockReady

/-- Ticks, samples and the PWM run: the clock is ready and the configuration settled (R158, R163). -/
def State.settledRunning (s : State) : Bool := s.clocked && s.config.isSome

/-- NATTN is driven low (R157, R168). -/
def State.attn (s : State) : Bool := !s.rst.inForce && s.monitor.flags.any

/-- LEN is active (R81, R154, R155; log 7 while a reset is in force). -/
def State.lenActive (s : State) : Bool :=
  if s.rst.inForce then Config.lenWhileReset else s.power.state != .dormant

/-- The bit time the Share Line Interface keeps, none in OFF (R82, R88). -/
def State.bitTiming (s : State) : Option Nat :=
  if s.line.position = .off then none else s.config.map fun c => bitTime c.rateCode

/-! ### The limits and the target of the Load Drive (R124, R126) -/

/-- The horizon limit, where it applies (R80). -/
def State.horizonLimit (s : State) : Option Nat :=
  if s.part.state.isGather || s.part.state == .mute then
    some (match s.part.horizon with
      | .counting _ => s.cfg.floorLevel
      | .expired => 0)
  else none

/-- The sag-hold limit, where it applies (R145). -/
def State.sagLimit (s : State) : Option Nat :=
  if s.sense.sagHold.isSome then some s.cfg.floorLevel else none

/-- The lockout limit, where it applies (R141). -/
def State.lockoutLimit (s : State) : Option Nat := if s.sense.lockout.isSome then some 0 else none

/-- The state limit, where it applies (R124). -/
def State.stateLimit (s : State) : Option Nat :=
  if s.power.state != .run || s.part.state == .start || s.part.state == .sleep ||
      s.part.state.isHalted then some 0
  else none

/-- A limit that does not apply takes no part in the minimum (R124). -/
def capped (n : Nat) (limit : Option Nat) : Nat := min n (limit.getD n)

/-- The output target: the lowest limit (R124). -/
def State.target (s : State) : Nat :=
  capped (capped (capped (capped (min s.allowedLevel s.wantLevel) s.horizonLimit) s.sagLimit)
    s.lockoutLimit) s.stateLimit

/-- The active limit reasons in the order of the status image: HOLDING, WANT, INHIBIT, HORIZON, SAG,
LOCKOUT, STATE, RAMP (R126, R174). -/
def State.reasons (s : State) : List Bool :=
  [ s.allowedLevel == s.target,
    s.wantLevel == s.target && !s.demand.inhibit && !s.sense.lockout.isSome,
    s.demand.inhibit,
    s.horizonLimit == some s.target,
    s.sagLimit == some s.target,
    s.sense.lockout.isSome,
    s.stateLimit.isSome,
    decide (s.drive.output < s.target) ]

/-! ### Cut and ramp (R127 to R129, R139) -/

/-- A conversion in progress notes that a cut has fallen since its sampling began (R139). -/
def Converter.noteCut : Converter → Converter
  | .converting (.isense _) => .converting (.isense true)
  | c => c

/-- A cut: the output level takes the target at once, GATE goes low, the ramp timer stops, and the
Sense Unit is handed the cut, which sets the blanking count to 2 (R127, R132, R139). -/
def State.cutTo (s : State) (level : Nat) : State :=
  { s with
    drive := { s.drive with output := level, ramp := .stopped, gate := false }
    sense := { s.sense with blanking := 2, converter := s.sense.converter.noteCut } }

/-- The ramp timer once the target stands above the output level: it starts where it was stopped
(R128, R129). -/
def RampTimer.start : RampTimer → RampTimer
  | .stopped => .started
  | r => r

/-- The Load Drive follows its target: a cut below the output level, else the ramp timer runs or
stops (R127 to R129). -/
def State.follow (s : State) : State :=
  if s.target < s.drive.output then s.cutTo s.target
  else if s.drive.output < s.target then
    { s with drive := { s.drive with ramp := s.drive.ramp.start } }
  else { s with drive := { s.drive with ramp := .stopped } }

/-! ### Patience and the idle timer -/

/-- Patience is 0 whenever the want level is no greater than the own allowed level (R111). -/
def State.restPatience (s : State) : State :=
  if s.wantLevel ≤ s.allowedLevel then { s with demand := { s.demand with patience := 0 } } else s

/-- The idle conditions (R148), power RUN among them. -/
def State.idle (s : State) : Bool :=
  s.activeRun && s.wantLevel == 0 && s.ownHolding == 0 && s.ownShedDepth == 0 &&
    !s.sense.lockout.isSome && !s.sense.sagHold.isSome

/-- The idle delay in ticks (R147). -/
def State.idleTicks (s : State) : Nat := 100 * s.cfg.idleDelay

/-- The dormant delay in ticks (R147). -/
def State.dormantTicks (s : State) : Nat := 100 * s.cfg.dormantDelay

/-- The idle timer is set to 0 whenever an idle condition fails (R148). -/
def State.restIdle (s : State) : State :=
  if s.idle then s else { s with power := { s.power with idleTimer := 0 } }

/-- What every block does at once after a change: patience, the Load Drive, the idle timer (R25, R111,
R124, R148). -/
def State.react (s : State) : State := s.restPatience.follow.restIdle

/-! ### The outbox (R112, R113) -/

/-- A request, as its placer names it (R112). -/
inductive Request where
  | sag | evict | release | claim | plain | rejoin
deriving DecidableEq, Repr

/-- Placement merges with a request of the kind already there (R112). -/
def Outbox.add (o : Outbox) : Request → Outbox
  | .sag => { o with sag := true }
  | .evict => { o with evict := true }
  | .release => { o with release := true }
  | .claim => { o with claim := true }
  | .plain => { o with announce := some (o.announce.getD .plain) }
  | .rejoin => { o with announce := some (o.announce.getD .rejoin) }

/-- The request of a kind is removed (R117). -/
def Outbox.remove (o : Outbox) : FrameKind → Outbox
  | .sag => { o with sag := false }
  | .evict => { o with evict := false }
  | .release => { o with release := false }
  | .claim => { o with claim := false }
  | .announce => { o with announce := none }

/-- Whether the outbox takes a placement (R113). -/
def State.accepts (s : State) (r : Request) : Bool :=
  match r with
  | .rejoin => s.part.state == .gather .rejoin
  | _ => s.activeRun

/-- A placement: taken, merged or refused (R112, R113). -/
def State.place (s : State) (r : Request) : State :=
  if s.accepts r then { s with line := { s.line with outbox := s.line.outbox.add r } } else s

/-- The outbox is emptied (R119). -/
def State.emptyOutbox (s : State) : State :=
  { s with line := { s.line with outbox := Outbox.empty } }

/-! ### The Demand Unit's decision (R107 to R110) -/

/-- The release condition (R108). -/
def State.releaseDue (s : State) : Bool := s.activeRun && decide (s.wantUnits < s.ownHolding)

/-- The claim condition (R109). -/
def State.claimDue (s : State) : Bool :=
  decide (s.allowedLevel < s.wantLevel) && s.ownEntry.isPresent && s.activeRun &&
    !s.part.reannouncePending

/-- The Demand Unit places a RELEASE or a CLAIM where its condition holds (R107). -/
def State.decideDemand (s : State) : State :=
  let s1 := if s.releaseDue then s.place .release else s
  if s1.claimDue then s1.place .claim else s1

/-- The decision at a change of the want level, of the participation state or of the power state
(R107): where none of them changed from `before`, nothing is decided. -/
def State.decideSince (s before : State) : State :=
  if s.wantLevel = before.wantLevel ∧ s.part.state = before.part.state ∧
      s.power.state = before.power.state then s
  else s.decideDemand

/-! ### The PWM period and the converter (R130 to R137) -/

/-- The on-time at an output level (R131), in units of 0.125 µs. -/
def State.onTimeAt (s : State) (level : Nat) : Nat :=
  periodTime s.cfg.pwmCode * level / s.cfg.maxLevel

/-- The overdraw limit latched from the own holding (R137). -/
def State.overdrawLimit (s : State) : Nat :=
  min 4095 (s.ownHolding * s.cfg.currentScale + 4 * s.cfg.overdrawMargin)

/-- The time the ramp timer stands at as a boundary ends a period (R128): a timer started in that
period stands at `sinceStart`, which is no longer than the period. None where it is stopped. -/
def RampTimer.timeAt (period sinceStart : Nat) : RampTimer → Option Nat
  | .stopped => none
  | .started => some (min sinceStart period)
  | .running time => some (time + period)

/-- The ramp step in units of 0.125 µs (R128). -/
def State.rampStepTime (s : State) : Nat := s.cfg.rampStep * millisecond

/-- The output level rises by one, and the ramp timer starts again at 0 or stops (R128). -/
def State.raiseOutput (s : State) : State :=
  { s with drive := { s.drive with
      output := s.drive.output + 1
      ramp := if s.drive.output + 1 < s.target then .running 0 else .stopped } }

/-- The ramp at a period boundary (R128): the output level rises where the target is above it and the
timer has reached the ramp step. -/
def State.rampAtBoundary (s : State) (sinceStart : Nat) : State :=
  match s.drive.ramp.timeAt (periodTime s.cfg.pwmCode) sinceStart with
  | none => s
  | some time =>
    if s.drive.output < s.target ∧ s.rampStepTime ≤ time then s.raiseOutput
    else { s with drive := { s.drive with ramp := .running time } }

/-- The period that begins at a boundary: its duty from the output level (R131). -/
def State.beginPeriod (s : State) : State :=
  { s with drive := { s.drive with
      period := some { onTime := s.onTimeAt s.drive.output, elapsed := 0 }
      gate := decide (0 < s.drive.output) } }

/-- The converter's schedule at a boundary (R136, R137): every eighth boundary converts VSENSE, the
others ISENSE, which latches the overdraw limit. A boundary within the first 20 µs of power starts no
conversion and loses its slot. -/
def State.scheduleAtBoundary (s : State) (firstTwenty : Bool) : State :=
  let vslot := s.sense.schedule + 1 == 8
  let n := if vslot then 0 else s.sense.schedule + 1
  if firstTwenty then { s with sense := { s.sense with schedule := n, converter := .settling } }
  else if vslot then
    { s with sense := { s.sense with schedule := n, converter := .converting .vsense } }
  else
    { s with sense := { s.sense with
        schedule := n, limit := some s.overdrawLimit, converter := .converting (.isense false) } }

/-- A period boundary (R128, R131, R136). -/
def State.boundary (s : State) (sinceStart : Nat) : State :=
  ((s.rampAtBoundary sinceStart).beginPeriod).scheduleAtBoundary false

/-- The PWM period state starts and the converter is powered; the first boundary falls at that moment
and lies within the converter's first 20 µs (R130, R135, R136). No period ends at it, and the ramp
timer has not run: where the periods stood still the target was 0. -/
def State.startPeriods (s : State) : State := s.beginPeriod.scheduleAtBoundary true

/-- The PWM period state stops and the converter is unpowered (R130, R135). -/
def State.stopPeriods (s : State) : State :=
  { s with
    drive := { s.drive with period := none, gate := false }
    sense := { s.sense with
      converter := .unpowered, schedule := 0, limit := none, overdrawRun := 0, blanking := 0
      sagRun := 0 } }

/-! ### The line (R88, R100, R101) -/

/-- The frame is ended for this station and the line position is `p` (R88). -/
def LineInterface.endFrame (l : LineInterface) (p : LinePosition) : LineInterface :=
  { l with position := p, role := .none, tx := none, txBits := [], rx := Rx.start
           received := none, verdict := none, drive := .none, idleRun := 0 }

/-- The frame is ended for this station and the line position is `p`. -/
def State.endFrame (s : State) (p : LinePosition) : State := { s with line := s.line.endFrame p }

/-- Another station's SOF has been read: the station is a receiver of the frame (R88). -/
def State.becomeReceiver (s : State) : State :=
  { s with line := { s.line.endFrame .frame with role := .receiver, rx := Rx.afterSof } }

/-- The frame this station has followed to its slots: its own, or one received to its last CRC bit
without a format error (R96, R97). -/
def State.slotFrame (s : State) : Option Frame :=
  if s.line.position = .frame then
    match s.line.role with
    | .sender => s.line.tx
    | .receiver => s.line.received
    | _ => none
  else none

/-- The station sent the frame it follows. -/
def State.isSender (s : State) : Bool := s.line.role == .sender

/-- A completed frame lowers the line fault count by one, to no less than 0 (R100). -/
def State.lowerFault (s : State) : State :=
  { s with line := { s.line with faultCount := s.line.faultCount - 1 } }

/-! ### Moves between participation and power states -/

/-- LISTEN ends as participation leaves ACTIVE (R152): power RUN, the dormant timer at 0, the period
state and the converter started. -/
def State.endListen (s : State) : State :=
  if s.power.state = .listen then
    State.startPeriods { s with power := { s.power with state := .run, dormantTimer := 0 } }
  else s

/-- Patience returns to 0 on entry to GATHER, MUTE, SLEEP or HALTED (R111). -/
def State.dropPatience (s : State) : State := { s with demand := { s.demand with patience := 0 } }

/-- GATHER entry (R18, R60), with the GATHER flag where the station was shown stale. -/
def State.enterGather (s : State) (stale : Bool) : State :=
  State.endListen
    { (s.raiseIf stale .gather).emptyOutbox.dropPatience with
      table := s.table.forGather s.own s.part.evictedInMute
      lineCount := none
      part := { s.part with
        state := .gather .window, windowTimer := 0, announceTimer := 0
        reannouncePending := false, evictedInMute := false } }

/-- MUTE entry (R74). -/
def State.enterMute (s : State) : State :=
  State.endListen
    { (s.raise .mute).emptyOutbox.dropPatience with
      part := { s.part with
        state := .mute, windowTimer := 0, announceTimer := 0, reannouncePending := false } }

/-- HALTED entry (R70, R77, R103): the window and horizon timers stop where they stand, the announce
timer is at 0, the line position is OFF (log 25). -/
def State.enterHalted (s : State) (cause : HaltCause) : State :=
  State.endListen
    (State.endFrame
      { (s.raise .halt).emptyOutbox.dropPatience with
        part := { s.part with state := .halted cause, announceTimer := 0 } } .off)

/-- SLEEP and DORMANT entry (R20, R76, R102, R154). R76 stops the window timer and names no value for
it; that it stands at 0 in SLEEP is the model's DESIGN CHOICE, safe (log 25). -/
def State.enterDormant (s : State) : State :=
  State.endFrame
    { s.emptyOutbox.dropPatience with
      table := Table.allAbsent
      lineCount := none
      part := { s.part with
        state := .sleep, windowTimer := 0, announceTimer := 0, horizon := .expired
        reannouncePending := false, evictedInMute := false }
      power := { state := .dormant, idleTimer := 0, dormantTimer := 0, clockReady := false }
      monitor := { s.monitor with transaction := none, snapshot := [], miso := true } } .off

/-- An error the station takes as its own: the line fault count rises by 2, to no more than 31, and
at 16 or more in ACTIVE or GATHER the station enters MUTE (R74, R100, R101). -/
def State.ownError (s : State) : State :=
  let s1 := { s with line := { s.line with faultCount := min 31 (s.line.faultCount + 2) } }
  if decide (16 ≤ s1.line.faultCount) && (s.part.state == .active || s.part.state.isGather) then
    s1.enterMute
  else s1

/-- In MUTE a completed frame that leaves the line fault count at 4 or less takes the station to
GATHER (R75, R101). -/
def State.leaveMute (s : State) : State :=
  if s.part.state = .mute ∧ s.line.faultCount ≤ 4 then s.enterGather false else s

/-! ### Timers counted in ticks (R68, R70, R71, R79, R148, R153) -/

/-- The horizon timer takes a tick, and is expired as it reaches 2P (R79). -/
def Horizon.ticked (limit : Nat) : Horizon → Horizon
  | .counting n => if n + 1 < limit then .counting (n + 1) else .expired
  | .expired => .expired

/-- The window closes (R19, R59, R68). -/
def State.closeWindow (s : State) : State :=
  State.place
    { s with
      table := s.table.closed
      lineCount := some (s.lineCount.getD 0)
      part := { s.part with state := .gather .rejoin, windowTimer := 2 * s.cfg.announcePeriod } }
    .rejoin

/-- The announce timer stands at P and a plain ANNOUNCE is placed (R70). -/
def State.announceDue (s : State) : State :=
  State.place { s with part := { s.part with announceTimer := s.cfg.announcePeriod } } .plain

/-- The PRESENT peers that have been silent for 3P or more (R71). -/
def State.silentPeers (s : State) : List Address :=
  s.table.silent s.own (3 * s.cfg.announcePeriod)

/-- The look for silent peers on a tick, in ACTIVE with power RUN (R71). -/
def State.lookForSilence (s : State) : State :=
  if s.activeRun && !s.silentPeers.isEmpty then s.place .evict else s

end Sys2Proof.Machine
end

