-- ==== Sys2Proof/Machine/Equipment.lean ====
section
/-! DEFINITION. The equipment side: the demand pins (R104 to R106), the PWM period (R128, R131), the
converter's results (R138 to R143) and the lockout and sag hold timers (R141, R145). -/

namespace Sys2Proof.Machine

/-! ### The demand pins -/

/-- The demand pins sampled and debounced: a value shown by three samples in a row is taken (R104). -/
def DemandUnit.sampleLevel (d : DemandUnit) (v : DemandLevel) : DemandUnit :=
  let n := if v = d.lastSample then d.sameCount + 1 else 1
  { d with lastSample := v, sameCount := n, level := if 3 ≤ n then v else d.level }

/-- NINH sampled: one low sample makes the INHIBIT state active, three high ones release it (R105). -/
def DemandUnit.sampleInhibit (d : DemandUnit) (ninhHigh : Bool) : DemandUnit :=
  if ninhHigh then
    { d with highCount := min 3 (d.highCount + 1)
             inhibit := if 3 ≤ d.highCount + 1 then false else d.inhibit }
  else { d with highCount := 0, inhibit := true }

/-- A want that becomes nonzero in LISTEN returns the station to RUN (R151): the note is set and a
plain ANNOUNCE placed. -/
def State.leaveListen (s : State) : State :=
  if s.power.state = .listen ∧ s.wantLevel ≠ 0 then
    State.place
      { s.endListen with part := { s.endListen.part with reannouncePending := true } } .plain
  else s

/-- DEMAND_SAMPLE (R104 to R107, R151). -/
def execDemandSample (demand : DemandLevel) (ninhHigh : Bool) (s : State) :
    Host.Outcome State Fault Refusal :=
  if s.settledRunning then
    let s1 := { s with demand := (s.demand.sampleLevel demand).sampleInhibit ninhHigh }
    .next ((s1.leaveListen.decideSince s).react)
  else .next s

/-! ### The PWM period -/

/-- PERIOD_BOUNDARY (R128, R131, R136): a due ramp step, the duty, a conversion. -/
def execPeriodBoundary (s : State) (sinceStart : Nat := 0) : Host.Outcome State Fault Refusal :=
  if s.settledRunning && s.drive.period.isSome then .next (s.boundary sinceStart) else .next s

/-- ON_TIME_ELAPSED (R131): the on-time of a period shorter than the whole has elapsed; GATE goes low
for the rest of it. -/
def execOnTimeElapsed (s : State) : Host.Outcome State Fault Refusal :=
  match s.drive.period with
  | none => .next s
  | some p =>
    if s.settledRunning && s.drive.gate && decide (p.onTime < periodTime s.cfg.pwmCode) then
      .next { s with drive := { s.drive with
        gate := false, period := some { p with elapsed := p.onTime } } }
    else .next s

/-! ### Converter results -/

/-- 18 µs, the length of a conversion, in units of 0.125 µs (R136). -/
def conversionTime : Nat := 144

/-- The conversion ends (R136): the converter is idle, and 18 µs of the period have elapsed, or more
where the on-time ended after that. -/
def State.endConversion (s : State) : State :=
  { s with
    sense := { s.sense with converter := .idle }
    drive := { s.drive with
      period := s.drive.period.map fun p => { p with elapsed := max p.elapsed conversionTime } } }

/-- The trip on overdraw (R140). -/
def State.trip (s : State) : State :=
  let locked :=
    { s with sense := { s.sense with overdrawRun := 0, lockout := some s.cfg.lockoutTime } }
  (((locked.raise .overdraw).count .overdrawTrips 1).decideSince s).react

/-- An ISENSE result (R138, R139): blanked where its sampling began after the most recent cut and the
blanking count is above 0, else compared with the latched limit; three above it in a row trip. -/
def State.isenseResult (s : State) (cutSince : Bool) (code : Nat) : State :=
  if 0 < s.sense.blanking ∧ cutSince = false then
    { s with sense := { s.sense with overdrawRun := 0, blanking := s.sense.blanking - 1 } }
  else if code ≤ s.sense.limit.getD code then { s with sense := { s.sense with overdrawRun := 0 } }
  else if s.sense.overdrawRun + 1 < 3 then
    { s with sense := { s.sense with overdrawRun := s.sense.overdrawRun + 1 } }
  else s.trip

/-- Local sag (R143): the flag and the counter; the hold starts with a SAG request, or starts again
without one. -/
def State.localSag (s : State) : State :=
  let s1 := (s.raise .sag).count .localSags 1
  let s2 := if s.sense.sagHold.isSome then s1 else s1.place .sag
  State.react
    { s2 with sense := { s2.sense with sagRun := 0, sagHold := some s.cfg.sagHoldTime } }

/-- A VSENSE result (R142): two in a row below the threshold detect local sag. -/
def State.vsenseResult (s : State) (code : Nat) : State :=
  if 16 * s.cfg.sagThreshold ≤ code then { s with sense := { s.sense with sagRun := 0 } }
  else if s.sense.sagRun + 1 < 2 then
    { s with sense := { s.sense with sagRun := s.sense.sagRun + 1 } }
  else s.localSag

/-- CONVERSION_READY (R136, R138, R139, R142): the result of the conversion in progress. -/
def execConversionReady (code : ConverterCode) (s : State) : Host.Outcome State Fault Refusal :=
  if s.settledRunning then
    match s.sense.converter with
    | .converting (.isense cutSince) => .next (s.endConversion.isenseResult cutSince code.val)
    | .converting .vsense => .next (s.endConversion.vsenseResult code.val)
    | .unpowered | .settling | .idle => .next s
  else .next s

/-! ### The lockout and the sag hold -/

/-- LOCKOUT_EXPIRY (R141): the lockout limit is removed and the want level follows demand and INHIBIT
again. The timer counts in power RUN. -/
def execLockoutExpiry (s : State) : Host.Outcome State Fault Refusal :=
  if s.settledRunning && s.power.state == .run && s.sense.lockout.isSome then
    let free := { s with sense := { s.sense with lockout := none } }
    .next ((free.decideSince s).react)
  else .next s

/-- SAG_HOLD_EXPIRY (R145): the sag-hold limit is removed. The timer counts in power RUN. -/
def execSagHoldExpiry (s : State) : Host.Outcome State Fault Refusal :=
  if s.settledRunning && s.power.state == .run && s.sense.sagHold.isSome then
    .next (State.react { s with sense := { s.sense with sagHold := none } })
  else .next s

end Sys2Proof.Machine
end

