-- ==== Sys2Proof/Machine/LineTraffic.lean ====
section
/-! DEFINITION. The traffic of the share line up to a frame's outcome (chapter 4), the station's own
frames (R51 to R55) and the outbox at a start opportunity (R114, R115). -/

namespace Sys2Proof.Machine

/-! ### The content of own frames (R51 to R55) -/

/-- The largest level, from `k` down, whose units less the own holding are covered by `room` (R52). -/
def levelCovered (unitsPerLevel holding room : Nat) : Nat → Nat
  | 0 => 0
  | k + 1 =>
    if (k + 1) * unitsPerLevel - holding ≤ room then k + 1
    else levelCovered unitsPerLevel holding room k

/-- Free plus the sheddable units for the own class (R52). -/
def State.claimRoom (s : State) : Nat :=
  s.table.free s.cfg.budget + s.table.sheddable s.own s.loader.straps.cls

/-- The target level T of an own claim (R52). -/
def State.targetLevel (s : State) : Nat :=
  levelCovered s.cfg.unitsPerLevel s.ownHolding s.claimRoom s.wantLevel

/-- The increment of an own claim (R52). -/
def State.claimIncrement (s : State) : Nat := s.targetLevel * s.cfg.unitsPerLevel - s.ownHolding

/-- The own debt stack, empty while the own entry is ABSENT (R54). -/
def State.ownDebts (s : State) : List DebtRecord :=
  if s.ownEntry.isPresent then s.ownEntry.debts else []

/-- The payload of an own frame of each kind (R52 to R55). -/
def State.ownPayload (s : State) : FrameKind → Payload
  | .sag => .sag
  | .evict => .evict (s.table.evictList s.own (3 * s.cfg.announcePeriod))
  | .release =>
    .release s.wantUnits (s.ownHolding - s.wantUnits)
      (s.table.settlementList s.own (s.ownHolding - s.wantUnits))
  | .claim =>
    .claim s.wantUnits s.claimIncrement
      (s.table.victimList s.cfg.budget s.own s.loader.straps.cls s.claimIncrement)
  | .announce =>
    if s.line.outbox.announce = some .rejoin then .announce true s.floorUnits s.wantUnits 0 []
    else .announce false s.floorUnits s.wantUnits s.ownHolding s.ownDebts

/-- The wait field: 3 less patience in a CLAIM, 3 in every other kind (R84, R111). -/
def State.waitField (s : State) (k : FrameKind) : Fin 4 :=
  if k = .claim then ⟨3 - s.demand.patience, by omega⟩ else 3

/-- The own frame of a kind, as its SOF fixes it (R51). -/
def State.ownFrame (s : State) (k : FrameKind) : Frame :=
  { rank := ⟨3 - s.loader.straps.cls.val, by omega⟩
    wait := s.waitField k
    sender := s.own
    lineCount := s.lineCount.getD 0 + 1
    payload := s.ownPayload k }

/-! ### The outbox at a start opportunity (R57, R114, R115) -/

/-- The participation and power states permit a frame (R57). -/
def State.mayTransmit (s : State) : Bool :=
  s.power.state == .run && (s.part.state == .active || s.part.state == .gather .rejoin)

/-- Whether the outbox holds a request of a kind. -/
def Outbox.has (o : Outbox) : FrameKind → Bool
  | .sag => o.sag
  | .evict => o.evict
  | .release => o.release
  | .claim => o.claim
  | .announce => o.announce.isSome

/-- Whether a request of a kind is valid (R115). -/
def State.valid (s : State) (k : FrameKind) : Bool :=
  match k with
  | .sag => s.activeRun
  | .evict => s.activeRun && !s.silentPeers.isEmpty
  | .release => s.activeRun && decide (s.wantUnits < s.ownHolding)
  | .claim => s.claimDue && decide (s.allowedLevel < s.targetLevel)
  | .announce =>
    match s.line.outbox.announce with
    | some .rejoin => s.part.state == .gather .rejoin
    | _ => s.activeRun

/-- The kinds in the order of their tests (R114). -/
def kindOrder : List FrameKind := [.sag, .evict, .release, .claim, .announce]

/-- The kind a start opportunity sends: the first present and valid one (R114). -/
def State.chosen (s : State) : Option FrameKind :=
  kindOrder.find? fun k => s.line.outbox.has k && s.valid k

/-- The kinds a start opportunity withdraws: those present and tested before the one sent (R114). -/
def State.withdrawn (s : State) : List FrameKind :=
  (kindOrder.takeWhile fun k => !(s.line.outbox.has k && s.valid k)).filter s.line.outbox.has

/-- The SOF of an own frame (R51, R89): its content is fixed and the station is its sender. -/
def State.sendFrame (s : State) (k : FrameKind) : State :=
  { s with line := { s.line with
      position := .frame, role := .sender, tx := some (s.ownFrame k)
      txBits := lineBits (s.ownFrame k), rx := Rx.start, received := none, verdict := none
      drive := .ownFrame } }

/-- A CLAIM was withdrawn for want of room: its condition holds, so that the station waits (R110). -/
def State.waits (s : State) : Bool := s.withdrawn.contains .claim && s.claimDue

/-- What the Demand Unit does when told of withdrawals (R107, log 23): it decides again where its
RELEASE or its CLAIM was withdrawn, but a CLAIM withdrawn for want of room waits (R110). -/
def State.afterWithdrawal (before s : State) : State :=
  if before.waits then (if s.releaseDue then s.place .release else s)
  else if before.withdrawn.contains .release || before.withdrawn.contains .claim then s.decideDemand
  else s

/-- START_OPPORTUNITY (R89, R114): in READY, where a frame is permitted, the requests are tested in
kind order, invalid ones withdrawn, and the first valid one sent. -/
def execStartOpportunity (s : State) : Host.Outcome State Fault Refusal :=
  if s.clocked && s.line.position == .ready && s.mayTransmit then
    let o := s.withdrawn.foldl Outbox.remove s.line.outbox
    let s1 := { s with line := { s.line with outbox := o } }
    .next (State.afterWithdrawal s
      (match s.chosen with
       | some k => s1.sendFrame k
       | none => s1))
  else .next s

/-! ### Bus idle, SOF and the end of a frame (R58, R88 to R90) -/

/-- BUS_IDLE (R58, R88): eleven recessive bits in SEEK make the line READY, and take a station in
START with its configuration settled to GATHER. -/
def execBusIdle (bits : List Bit) (s : State) : Host.Outcome State Fault Refusal :=
  if s.clocked && s.line.position == .seek && decide (11 ≤ idleRunAfter s.line.idleRun bits) then
    let s1 := { s with line := { s.line with position := .ready, idleRun := 11 } }
    .next (if s.part.state = .start then (s1.enterGather false).react else s1)
  else .next s

/-- SOF_READ (R88): another station's SOF in READY. -/
def execSofRead (s : State) : Host.Outcome State Fault Refusal :=
  if s.clocked && s.line.position == .ready then .next s.becomeReceiver else .next s

/-- TAIL_DOMINANT (R90): in the End field the station goes to SEEK; in the interframe it is another
station's SOF. -/
def execTailDominant (field : TailField) (s : State) : Host.Outcome State Fault Refusal :=
  if s.clocked && s.line.position == .tail then
    match field with
    | .endField => .next (s.endFrame .seek)
    | .interframe => .next s.becomeReceiver
  else .next s

/-- INTERFRAME_END (R88, R90): the line position goes from TAIL to READY. -/
def execInterframeEnd (s : State) : Host.Outcome State Fault Refusal :=
  if s.clocked && s.line.position == .tail then .next (s.endFrame .ready) else .next s

/-- JAM_END (R94): the twelfth jam bit ends; the line position becomes SEEK. -/
def execJamEnd (s : State) : Host.Outcome State Fault Refusal :=
  if s.clocked && s.line.position == .jam then .next (s.endFrame .seek) else .next s

/-! ### The sender (R91, R92, R95) -/

/-- The station is sending a frame. -/
def State.sending (s : State) : Bool :=
  s.clocked && s.line.position == .frame && s.line.role == .sender

/-- ARBITRATION_LOST (R91): the station stops driving and receives the frame from the bits it has
read; its request stays and its content is discarded. -/
def execArbitrationLost (bits : List Bit) (s : State) : Host.Outcome State Fault Refusal :=
  if s.sending && readBack 0 s.line.txBits bits == .lostArbitration then
    .next { s with line := { s.line with
      role := .receiver, tx := none, txBits := [], drive := .none
      rx := (readBits Rx.start bits).1 } }
  else .next s

/-- BIT_ERROR (R92, R95): the frame is abandoned. A bit sent dominant and read recessive is an own
error at once; a bit sent recessive and read dominant starts a watch on the dominant run. -/
def execBitError (bits : List Bit) (s : State) : Host.Outcome State Fault Refusal :=
  if s.sending then
    match readBack 0 s.line.txBits bits with
    | .errorOnDominant => .next ((s.endFrame .seek).ownError.react)
    | .errorOnRecessive =>
      .next { s with line := { s.line.endFrame .frame with
        role := .watching, rx := { Rx.start with run := dominantRun 0 bits } } }
    | .same | .lostArbitration => .next s
  else .next s

/-- BIT_ERROR_WATCH_END (R92, R99): the run reached ten and the difference was a jam, which is
counted as a void frame; or a recessive bit ended it and it is an own error. -/
def execBitErrorWatchEnd (bits : List Bit) (s : State) : Host.Outcome State Fault Refusal :=
  if s.clocked && s.line.position == .frame && s.line.role == .watching then
    match watchEnd s.line.rx.run bits with
    | .jam => .next ((s.endFrame .seek).count .framesVoid 1)
    | .ownError => .next ((s.endFrame .seek).ownError.react)
    | .goesOn => .next s
  else .next s

/-! ### The receiver (R85, R86, R93, R94, R96) -/

/-- The station is receiving a frame and has not reached its slots. -/
def State.receiving (s : State) : Bool :=
  s.clocked && s.line.position == .frame && s.line.role == .receiver && s.line.received.isNone

/-- The station ends a damaged frame (R94): in ACTIVE it drives a jam of twelve bits and the frame is
counted as jammed by it; in GATHER or MUTE it drives nothing and goes to SEEK. -/
def State.jamOrSeek (s : State) : State :=
  if s.part.state = .active then
    { (s.count .framesVoid 1) with line := { s.line.endFrame .jam with drive := .jam } }
  else s.endFrame .seek

/-- FORMAT_ERROR (R93, R94): the receiver takes the error as its own and then jams or seeks, by the
state it is in after the count is settled. -/
def execFormatError (bits : List Bit) (s : State) : Host.Outcome State Fault Refusal :=
  if s.receiving && (readBits s.line.rx bits).2 == .formatError then
    .next s.ownError.jamOrSeek.react
  else .next s

/-- JAM_RECOGNISED (R86, R94, R99; log 12): someone else's jam; no fault is counted, the frame is
counted as void, and in ACTIVE the station drives a jam of its own. -/
def execJamRecognised (bits : List Bit) (s : State) : Host.Outcome State Fault Refusal :=
  if s.receiving && (readBits s.line.rx bits).2 == .jam then
    .next (if s.part.state = .active then s.jamOrSeek else (s.endFrame .seek).count .framesVoid 1)
  else .next s

/-- The line count check of R44. -/
def State.countAgrees (s : State) (f : Frame) : Bool :=
  match s.lineCount with
  | some c => f.lineCount == c + 1
  | none => false

/-- The frame follows from this station's table: the line count check and the content check (R43). -/
def State.agreesWith (s : State) (f : Frame) : Bool :=
  s.countAgrees f && s.table.contentAgrees s.cfg.budget f

/-- The verdict drives a slot, and a dissent is counted (R43, R96). -/
def State.driveSlot (s : State) (f : Frame) : State :=
  if s.agreesWith f then
    { s with line := { s.line with verdict := some .agree, drive := .ackSlot } }
  else
    State.count { s with line := { s.line with verdict := some .disagree, drive := .dissentSlot } }
      .dissentsDriven 1

/-- FRAME_RECEIVED (R43, R78, R96): the address-conflict check at the last CRC bit, and in ACTIVE the
verdict that drives a slot. -/
def execFrameReceived (bits : List Bit) (s : State) : Host.Outcome State Fault Refusal :=
  if s.receiving then
    match readBits s.line.rx bits with
    | (r, .complete f) =>
      if f.sender = s.own then .next (s.enterHalted .conflict).react
      else
        let s1 := { s with line := { s.line with rx := r, received := some f } }
        .next (if s.part.state = .active then s1.driveSlot f else s1)
    | _ => .next s
  else .next s

end Sys2Proof.Machine
end

