-- ==== Sys2Proof/WellFormed.lean ====
section
/-! DEFINITION. Which commands are well formed: checks on operands that their types do not make. -/

namespace Sys2Proof

/-- The command bytes of R166 that the port knows. -/
def knownCommandBytes : List Byte := [0x11, 0x12, 0x13, 0x14, 0x1C]

/-- Whether these bytes are an unknown command (R166): a byte outside the table, or ENTRY with an
address byte above 31. -/
def unknownBytes (command : Byte) (address : Option Byte) : Bool :=
  match address with
  | none => !knownCommandBytes.contains command
  | some a => command == 0x12 && decide (31 < a.toNat)

/-- A command that some moment of the station could bring: an attempt reads fifteen bytes, 120
bits (R160), a bus idle has at least eleven bits (R88), a lost arbitration or a bit error has a bit
that differs (R91, R92), no period is longer than 1 ms (R130), and UNKNOWN_COMMAND is unknown (R166). -/
def Instr.wf : Instr → Bool
  | .attemptComplete bits => bits.length == 120
  | .busIdle bits => decide (11 ≤ bits.length)
  | .arbitrationLost bits => !bits.isEmpty
  | .bitError bits => !bits.isEmpty
  | .periodBoundary sinceStart => decide (sinceStart ≤ 8000)
  | .unknownCommand command address => unknownBytes command address
  | .reset _ | .resetEnd | .clockReady _ _ _ | .attemptFailed _ | .retryWaitExpiry _
  | .startOpportunity | .bitErrorWatchEnd _ | .formatError _ | .jamRecognised _ | .jamEnd
  | .tailDominant _ | .frameReceived _ | .frameConfirmed _ | .frameVoid _ | .frameJammed
  | .tick | .silenceLimitReached | .announceTimerExpiry | .windowClose | .horizonExpiry
  | .idleTimerExpiry | .listenEntry | .dormantTimerExpiry | .dormantEntry | .wake _ _
  | .wakeClockReady | .demandSample _ _ | .conversionReady _
  | .lockoutExpiry | .sagHoldExpiry | .ncsFall | .ncsRise | .status | .entry _ | .counters
  | .events | .clear | .sofRead | .interframeEnd | .onTimeElapsed | .sckEdge _ _ => true

end Sys2Proof
end

