-- ==== Sys2Proof/Machine/Monitor.lean ====
section
/-! DEFINITION. The monitor port (chapter 10) and its images (R174). -/

namespace Sys2Proof.Machine

/-! ### Images (R174) -/

/-- The byte that the low bits of a number give. -/
def byteOf (n : Nat) : Byte := BitVec.ofNat 8 n

/-- A bit as the number 1 or 0. -/
def bit (b : Bool) : Nat := b.toNat

def Participation.code : Participation → Nat
  | .start => 0
  | .gather _ => 1
  | .active => 2
  | .mute => 3
  | .sleep => 4
  | .halted _ => 5

/-- WINDOW 0, REJOIN 1; 0 outside GATHER. -/
def Participation.phaseCode : Participation → Nat
  | .gather .rejoin => 1
  | _ => 0

/-- CONFIG 1, CONFLICT 2, BUDGET 3; 0 outside HALTED. -/
def Participation.haltCode : Participation → Nat
  | .halted .config => 1
  | .halted .conflict => 2
  | .halted .budget => 3
  | _ => 0

def PowerState.code : PowerState → Nat
  | .run => 0
  | .listen => 1
  | .dormant => 2

def LoadStatus.code : LoadStatus → Nat
  | .waiting => 0
  | .reading => 1
  | .settled => 2
  | .failed => 3

/-- POWER 1, BROWNOUT 2, PIN 3 (R174). -/
def causeCode : ResetCause → Nat
  | .power => 1
  | .brownout => 2
  | .pin => 3

def Presence.code : Presence → Nat
  | .absent => 0
  | .unknown => 1
  | .present => 2

/-- The kinds present in the outbox, SAG first, and above them whether the ANNOUNCE is a rejoin. -/
def Outbox.bits (o : Outbox) : List Bit :=
  [o.announce == some .rejoin, o.sag, o.evict, o.release, o.claim, o.announce.isSome]

/-- Byte 9 of the status image: free, and 0 while there is no budget it could be counted from (R174). -/
def State.freeByte (s : State) : Byte :=
  match s.config with
  | some c => byteOf (s.table.free c.budget)
  | none => 0

/-- Bytes 0 to 14 of the status image (R174). -/
def State.statusBody (s : State) : List Byte :=
  [ byteOf (32 * s.part.state.code + 16 * s.part.state.phaseCode + 4 * s.power.state.code +
      2 * bit s.power.clockReady),
    byteOf (64 * s.loader.status.code + 16 * s.part.state.haltCode + 4 * causeCode s.rst.cause +
      s.loader.straps.cls.val),
    byteOf s.loader.straps.address.val,
    byteOf s.ownHolding,
    byteOf (if s.ownEntry.isPresent then s.ownEntry.want else 0),
    byteOf (16 * s.demand.level.val + s.drive.output),
    byteOf (natOf s.reasons),
    s.lineCount.getD 0,
    byteOf (128 * bit s.lineCount.isSome + s.line.faultCount),
    s.freeByte,
    byteOf (16 * s.ownShedDepth + (if s.ownEntry.isPresent then s.ownEntry.debts.length else 0)),
    byteOf (64 * s.demand.patience + s.table.presentCount),
    byteOf (natOf s.line.outbox.bits),
    byteOf (natOf s.monitor.flags.bits),
    byteOf (16 * s.wantLevel + s.allowedLevel) ]

/-- Fifteen bytes with their CRC-8 (R174). -/
def withCrc8 (body : List Byte) : List Byte := body ++ [crc8 body]

/-- The status image (R174). -/
def State.statusImage (s : State) : List Byte := withCrc8 s.statusBody

/-- The two bytes of record slot `i`: creditor address and units, 0 past the number of records. -/
def slotBytes (debts : List DebtRecord) (i : Nat) : List Byte :=
  match debts[i]? with
  | some d => [addressByte d.creditor, unitByte d.units]
  | none => [0, 0]

/-- The high and the low byte of a 16-bit number. -/
def highLow (n : Nat) : List Byte := [byteOf (n / 256), byteOf n]

/-- The entry image of an address (R174). -/
def State.entryImage (s : State) (a : Address) : List Byte :=
  let e := s.table.at a
  withCrc8
    ([ byteOf (64 * e.presence.code + a.val),
       byteOf (16 * e.debts.length + e.cls.val),
       byteOf e.floor, byteOf e.want, byteOf e.holding ] ++
      slotBytes e.debts 0 ++ slotBytes e.debts 1 ++ slotBytes e.debts 2 ++ slotBytes e.debts 3 ++
      highLow e.age)

/-- The counters image (R170, R174): no CRC. -/
def Counters.image (c : Counters) : List Byte :=
  [c.framesConfirmed, c.framesVoid, c.ownConfirmed, c.dissentsDriven, c.timesShed, c.overdrawTrips,
    c.localSags, c.evictEntries].flatMap highLow

/-- The EVENTS byte (R174). -/
def EventFlags.byte (f : EventFlags) : Byte := byteOf (natOf f.bits)

/-! ### Taking a command (R165 to R170) -/

/-- The transaction holds a taken command and its reply, whose bytes are the snapshot (R167). -/
def State.reply (s : State) (received : List Bit) (c : MonitorCommand) (image : List Byte) : State :=
  { s with monitor := { s.monitor with
      snapshot := image
      transaction := some
        { received := received, taken := some c, reply := image.flatMap byteBits } } }

/-- What a command does at the moment it is taken, with the bits clocked in so far (R167, R169, R170). -/
def State.take (s : State) (received : List Bit) (c : MonitorCommand) : State :=
  match c with
  | .status => s.reply received c s.statusImage
  | .entry a => s.reply received c (s.entryImage a)
  | .counters => s.reply received c s.monitor.counters.image
  | .events =>
    let s1 := s.reply received c [s.monitor.flags.byte]
    { s1 with monitor := { s1.monitor with flags := EventFlags.clear } }
  | .clear =>
    let s1 := s.reply received c []
    { s1 with monitor := { s1.monitor with counters := Counters.zero } }
  | .unknown => s.reply received c []

/-- The command that complete bits clocked in spell, if they complete one (R165, R166). -/
def commandOf (bits : List Bit) : Option MonitorCommand :=
  match bytesOf bits with
  | [b] =>
    if bits.length ≠ 8 then none
    else if b = 0x11 then some .status
    else if b = 0x12 then none
    else if b = 0x13 then some .counters
    else if b = 0x14 then some .events
    else if b = 0x1C then some .clear
    else some .unknown
  | [_, a] =>
    if h : a.toNat < 32 then some (.entry ⟨a.toNat, h⟩) else some .unknown
  | _ => none

/-- The port takes commands: no reset is in force and the power state is not DORMANT (R157, R171). -/
def State.portOpen (s : State) : Bool := !s.rst.inForce && s.power.state != .dormant

/-- NCS_FALL (R155, R165): a transaction begins; in DORMANT and while a reset is in force none does. -/
def execNcsFall (s : State) : Host.Outcome State Fault Refusal :=
  if s.monitor.ncsLow then .next s
  else
    .next { s with monitor := { s.monitor with
      ncsLow := true
      transaction :=
        if s.portOpen then some { received := [], taken := none, reply := [] } else none } }

/-- NCS_RISE (R165, R167): the transaction ends, the snapshot buffer is emptied, MISO is high. -/
def execNcsRise (s : State) : Host.Outcome State Fault Refusal :=
  .next { s with monitor := { s.monitor with
    ncsLow := false, transaction := none, snapshot := [], miso := true } }

/-- A rising SCK edge (R165): a MOSI bit is taken until a command is, and the command is taken at the
edge that completes it. -/
def State.sckRise (s : State) (t : Transaction) (mosi : Bit) : State :=
  if t.taken.isSome then s
  else
    let received := t.received ++ [mosi]
    match commandOf received with
    | some c => s.take received c
    | none =>
      { s with monitor := { s.monitor with transaction := some { t with received := received } } }

/-- A falling SCK edge (R165): the next reply bit goes to MISO; without one MISO is high. -/
def State.sckFall (s : State) (t : Transaction) : State :=
  { s with monitor := { s.monitor with
      miso := t.reply.headD true
      transaction := some { t with reply := t.reply.tail } } }

/-- SCK_EDGE (R165). -/
def execSckEdge (rising : Bool) (mosi : Bit) (s : State) : Host.Outcome State Fault Refusal :=
  match s.monitor.transaction with
  | none => .next s
  | some t =>
    if s.portOpen then .next (if rising then s.sckRise t mosi else s.sckFall t) else .next s

/-- The rising edges of these bits complete a command: a transaction is in progress, nothing has been
taken in it, and the bits clocked in so far begin them (log 28). -/
def State.completes (s : State) (bits : List Bit) : Bool :=
  s.portOpen &&
    match s.monitor.transaction with
    | some t => t.taken.isNone && t.received.isPrefixOf bits && decide (t.received.length < bits.length)
    | none => false

/-- STATUS (R166, R167). -/
def execStatus (s : State) : Host.Outcome State Fault Refusal :=
  if s.completes (byteBits 0x11) then .next (s.take (byteBits 0x11) .status) else .next s

/-- ENTRY (R166, R167). -/
def execEntry (address : Address) (s : State) : Host.Outcome State Fault Refusal :=
  let bits := byteBits 0x12 ++ byteBits (addressByte address)
  if s.completes bits then .next (s.take bits (.entry address)) else .next s

/-- COUNTERS (R166, R167). -/
def execCounters (s : State) : Host.Outcome State Fault Refusal :=
  if s.completes (byteBits 0x13) then .next (s.take (byteBits 0x13) .counters) else .next s

/-- EVENTS (R169). -/
def execEvents (s : State) : Host.Outcome State Fault Refusal :=
  if s.completes (byteBits 0x14) then .next (s.take (byteBits 0x14) .events) else .next s

/-- CLEAR (R170). -/
def execClear (s : State) : Host.Outcome State Fault Refusal :=
  if s.completes (byteBits 0x1C) then .next (s.take (byteBits 0x1C) .clear) else .next s

/-- The bits of an unknown command: its byte, and the address byte where it is an ENTRY. -/
def unknownBits (command : Byte) (address : Option Byte) : List Bit :=
  byteBits command ++ (address.map byteBits).getD []

/-- UNKNOWN_COMMAND (R166): all-ones bytes are shifted out and nothing is captured, cleared or zeroed. -/
def execUnknownCommand (command : Byte) (address : Option Byte) (s : State) :
    Host.Outcome State Fault Refusal :=
  if unknownBytes command address && s.completes (unknownBits command address) then
    .next (s.take (unknownBits command address) .unknown)
  else .next s

end Sys2Proof.Machine
end

