-- ==== Sys2Proof/Machine/Outcomes.lean ====
section
/-! DEFINITION. The outcomes of a frame (R97 to R99): confirmed, void and jammed, with what the
station does at each in ACTIVE (chapter 2, R72, R73), in GATHER (R61 to R69) and in MUTE (R75). -/

namespace Sys2Proof.Machine

/-! ### A frame confirmed -/

/-- The confirmed frame is counted, lowers the line fault count, and the line position becomes TAIL
(R97, R99, R100; log 14). -/
def State.completeConfirmed (s : State) (own : Bool) : State :=
  let s1 := ((s.endFrame .tail).lowerFault).count .framesConfirmed 1
  if own then s1.count .ownConfirmed 1 else s1

/-- At the confirmation of an own frame its request is removed and the horizon timer is 0 (R79, R117). -/
def State.ownConfirmed (s : State) (f : Frame) : State :=
  { s with
    line := { s.line with outbox := s.line.outbox.remove f.payload.kind }
    part := { s.part with horizon := .counting 0 } }

/-- The table after an application, with the sender's silence age at 0 and the line count adopted
(R9, R26, R59). -/
def State.adopt (s : State) (t : Table) (f : Frame) : State :=
  { s with table := t.heard f.sender, lineCount := some f.lineCount }

/-- The station is a victim of a confirmed CLAIM (R33, R66). -/
def listsVictim (a : Address) (victims : List Victim) : Bool := victims.any fun v => v.victim == a

/-- What an EVICT naming the station does in ACTIVE (R39, R72): EVICTED, the horizon expired, the note
set, and in power RUN a plain ANNOUNCE placed. -/
def State.ownEvicted (s : State) : State :=
  State.place
    { (s.raise .evicted) with
      part := { s.part with horizon := .expired, reannouncePending := true } } .plain

/-- What a confirmed frame does in ACTIVE beside the table, by its kind: SHED and patience for a CLAIM
(R33, R111), the eviction of the station and the counter for an EVICT (R38, R39), sag hold for a SAG
in power RUN (R144), the announce timer and the note for an own ANNOUNCE (R70, R72). `eager` is
whether the want level exceeded the own allowed level before the application. -/
def State.activeEffects (s : State) (f : Frame) (own eager : Bool) (evicted : Nat) : State :=
  match f.payload with
  | .sag =>
    if s.power.state = .run then
      { s with sense := { s.sense with sagHold := some s.cfg.sagHoldTime } }
    else s
  | .evict xs =>
    let s1 := s.count .evictEntries evicted
    if xs.contains s.own then s1.ownEvicted else s1
  | .release _ _ _ => s
  | .claim _ _ victims =>
    let s1 := if listsVictim s.own victims then (s.raise .shed).count .timesShed 1 else s
    if own then s1.dropPatience
    else if eager then
      { s1 with demand := { s1.demand with patience := min 3 (s1.demand.patience + 1) } }
    else s1
  | .announce rejoin _ _ _ _ =>
    if own && !rejoin then
      { s with part := { s.part with announceTimer := 0, reannouncePending := false } }
    else s

/-- The application of a confirmed frame in ACTIVE, by a station whose table it follows from (R26,
R27, R50). -/
def State.applyActive (s : State) (f : Frame) (own : Bool) : State :=
  let a := s.table.applyActive s.own f
  ((s.adopt a.table f).raiseIf a.repaid .repaid).activeEffects f own
    (decide (s.allowedLevel < s.wantLevel)) a.evicted

/-- A frame confirmed in ACTIVE. The table changes only by a frame that follows from it (R27, R50): a
receiver's verdict has found that, and a sender has computed its frame so (R28), so that the test
fails in no state a run reaches (log 15). -/
def State.confirmActive (s : State) (f : Frame) (own : Bool) : State :=
  let s1 := s.completeConfirmed own
  let s2 := if own then s1.ownConfirmed f else s1
  let s3 := if s.agreesWith f then s2.applyActive f own else s2
  s3.decideDemand.react

/-- What a confirmed frame does in GATHER beside the table (R64, R66). -/
def State.gatherEffects (s : State) (f : Frame) (evicted : Nat) : State :=
  match f.payload with
  | .evict xs =>
    let s1 := s.count .evictEntries evicted
    if xs.contains s.own then
      { (s1.raise .evicted) with part := { s1.part with horizon := .expired } }
    else s1
  | .claim _ _ victims =>
    if listsVictim s.own victims then (s.raise .shed).count .timesShed 1 else s
  | .sag | .release _ _ _ | .announce _ _ _ _ _ => s

/-- The own rejoin ANNOUNCE is confirmed (R69): the announce timer restarts at 0 and the station is
ACTIVE. -/
def State.rejoined (s : State) : State :=
  { s with part := { s.part with state := .active, announceTimer := 0 } }

/-- A frame confirmed in GATHER (R61, R67, R69): the budget check, then the application; the own
rejoin makes the station ACTIVE. -/
def State.confirmGather (s : State) (f : Frame) (own : Bool) : State :=
  let s1 := s.completeConfirmed own
  let s2 := if own then s1.ownConfirmed f else s1
  let a := s.table.applyGather s.own f
  if s.cfg.budget < a.table.held then (s2.enterHalted .budget).react
  else
    let s3 := (s2.adopt a.table f).gatherEffects f a.evicted
    (if own then s3.rejoined else s3).decideDemand.react

/-- A confirmed EVICT naming the station is recognised in MUTE (R75). -/
def State.recogniseEviction (s : State) (f : Frame) : State :=
  match f.payload with
  | .evict xs =>
    if xs.contains s.own then
      { (s.raise .evicted) with
        part := { s.part with horizon := .expired, evictedInMute := true } }
    else s
  | .sag | .release _ _ _ | .claim _ _ _ | .announce _ _ _ _ _ => s

/-- A frame confirmed in MUTE (R75, R79): nothing is applied; the station may leave for GATHER. -/
def State.confirmMute (s : State) (f : Frame) (own : Bool) : State :=
  let s1 := s.completeConfirmed own
  let s2 := if own then s1.ownConfirmed f else s1
  (s2.recogniseEviction f).leaveMute.react

/-- FRAME_CONFIRMED (R97). A station that has dissented from the frame reads its own dissent, so that
the frame is not confirmed for it. -/
def execFrameConfirmed (_ackSlot : Bit) (s : State) : Host.Outcome State Fault Refusal :=
  match s.slotFrame with
  | none => .next s
  | some f =>
    if !s.clocked || s.line.verdict == some .disagree then .next s
    else
      match s.part.state with
      | .active => .next (s.confirmActive f s.isSender)
      | .gather _ => .next (s.confirmGather f s.isSender)
      | .mute => .next (s.confirmMute f s.isSender)
      | .start | .sleep | .halted _ => .next s

/-! ### A frame void or jammed -/

/-- The void frame is counted, lowers the line fault count, and the line position becomes TAIL (R98 to
R100). -/
def State.completeVoid (s : State) : State :=
  ((s.endFrame .tail).lowerFault).count .framesVoid 1

/-- A void frame shows this station stale (R73): a sender without any ACK, or a dissenter beside an
agreeing receiver. -/
def State.shownStale (s : State) (acked : Bool) : Bool :=
  if s.isSender then !acked else s.line.verdict == some .disagree && acked

/-- The own rejoin ANNOUNCE is void without ACK (R59, R69): back to phase WINDOW with the window timer
at 0, the line count unadopted and the request removed. -/
def State.windowAgain (s : State) : State :=
  { s with
    lineCount := none
    line := { s.line with outbox := s.line.outbox.remove .announce }
    part := { s.part with state := .gather .window, windowTimer := 0 } }

/-- FRAME_VOID (R73, R75, R98). A station that drove the ACK slot reads it dominant. -/
def execFrameVoid (ackSlot : Bit) (s : State) : Host.Outcome State Fault Refusal :=
  match s.slotFrame with
  | none => .next s
  | some _ =>
    if !s.clocked then .next s
    else
      let acked := ackSlot == dominant || s.line.verdict == some .agree
      let s1 := s.completeVoid
      match s.part.state with
      | .active => .next (if s.shownStale acked then (s1.enterGather true).react else s1)
      | .gather _ => .next (if s.isSender && !acked then s1.windowAgain else s1)
      | .mute => .next s1.leaveMute.react
      | .start | .sleep | .halted _ => .next s

/-- FRAME_JAMMED (R94, R98, R99): the station that has followed the frame to its slots recognises the
jam, counts a void frame and waits for bus idle; a station whose own jam runs goes on with it. -/
def execFrameJammed (s : State) : Host.Outcome State Fault Refusal :=
  match s.slotFrame with
  | none => .next s
  | some _ => if !s.clocked then .next s else .next ((s.endFrame .seek).count .framesVoid 1)

end Sys2Proof.Machine
end

