-- ==== Sys2Proof/Machine/Rest.lean ====
section
/-! DEFINITION. Rest and wake: entering LISTEN, entering DORMANT, the wake (chapter 8). -/

namespace Sys2Proof.Machine

/-- Whether the outbox holds no request (R148). -/
def Outbox.isEmpty (o : Outbox) : Bool := o == Outbox.empty

/-- LISTEN_ENTRY (R148, R149): the idle timer stands at the idle delay, every idle condition holds and
the outbox is empty. -/
def execListenEntry (s : State) : Host.Outcome State Fault Refusal :=
  if s.settledRunning && s.idle && decide (0 < s.idleTicks) &&
      decide (s.idleTicks ≤ s.power.idleTimer) && s.line.outbox.isEmpty then
    .next (State.stopPeriods (State.follow
      { s with power := { s.power with state := .listen, idleTimer := 0, dormantTimer := 0 } }))
  else .next s

/-- The line position lets a move to DORMANT take effect (R102, R153). -/
def LinePosition.atRest : LinePosition → Bool
  | .seek | .ready => true
  | .off | .frame | .jam | .tail => false

/-- DORMANT_ENTRY (R76, R102, R153, R154): the dormant timer stands at the dormant delay and the line
position is SEEK or READY. -/
def execDormantEntry (s : State) : Host.Outcome State Fault Refusal :=
  if s.settledRunning && s.power.state == .listen && decide (0 < s.dormantTicks) &&
      decide (s.dormantTicks ≤ s.power.dormantTimer) && s.line.position.atRest then
    .next s.enterDormant.follow.stopPeriods
  else .next s

/-- WAKE (R155): in DORMANT the demand pins show a value other than 0 with NINH high; the clock starts
and LEN goes active with power RUN. -/
def execWake (demand : DemandLevel) (ninhHigh : Bool) (s : State) :
    Host.Outcome State Fault Refusal :=
  if !s.rst.inForce && s.power.state == .dormant && demand != 0 && ninhHigh then
    .next { s with power := { s.power with state := .run, clockReady := false } }
  else .next s

/-- WAKE_CLOCK_READY (R156): the clock is ready; GATHER is entered as from START, the line position is
SEEK, sampling starts again with its counts at 0, the PWM and the converter start. -/
def execWakeClockReady (s : State) : Host.Outcome State Fault Refusal :=
  if !s.rst.inForce && s.power.state == .run && s.part.state == .sleep && !s.power.clockReady then
    let s1 := State.enterGather
      { s with
        power := { s.power with clockReady := true }
        demand := { s.demand with sameCount := 0, highCount := 0 } } false
    .next (State.react (State.startPeriods
      { s1 with line := { s1.line with position := .seek, idleRun := 0 } }))
  else .next s

end Sys2Proof.Machine
end

