-- ==== Sys2Proof/Machine/TwoWire.lean ====
section
/-! DEFINITION. What the two-wire port carries, level by level (R160, R161): conditions, bits with
their acknowledges, and the sequence of an attempt. Between two levels that follow each other one line
changes at most. -/

namespace Sys2Proof.Machine

/-! ### Conditions and bits (R160) -/

/-- A start condition from lines that stand high: SDA falls while SCL is high. -/
def startCondition : List PortLevels :=
  [{ scl := true, station := false, memory := true },
   { scl := false, station := false, memory := true }]

/-- A start condition within an attempt: SDA is let go while SCL is low, and SCL raised, before it. -/
def repeatedStart : List PortLevels :=
  [{ scl := false, station := true, memory := true }, PortLevels.released] ++ startCondition

/-- A stop condition from a low SCL: SDA rises while SCL is high. -/
def stopCondition : List PortLevels :=
  [{ scl := false, station := false, memory := true },
   { scl := true, station := false, memory := true }, PortLevels.released]

/-- One clocked bit: SDA is set while SCL is low and stands while SCL is high. -/
def clockedBit (station memory : Bit) : List PortLevels :=
  [{ scl := false, station := station, memory := memory },
   { scl := true, station := station, memory := memory },
   { scl := false, station := station, memory := memory }]

/-- A byte sent, most significant bit first, and its acknowledge bit, which the memory pulls low. -/
def sentByte (b : Byte) (acknowledged : Bool) : List PortLevels :=
  (byteBits b).flatMap (fun v => clockedBit v true) ++ clockedBit true (!acknowledged)

/-- A byte read, most significant bit first, and its acknowledge bit, which the station pulls low. -/
def readByte (b : Byte) (acknowledged : Bool) : List PortLevels :=
  (byteBits b).flatMap (fun v => clockedBit true v) ++ clockedBit (!acknowledged) true

/-! ### The steps of an attempt (R160, R161) -/

/-- One clearing pulse on SCL, and what SDA reads after it. -/
def clearingPulse (sda : Bit) : List PortLevels :=
  [{ scl := false, station := true, memory := false },
   { scl := false, station := true, memory := sda },
   { scl := true, station := true, memory := sda }]

/-- What the port shows before an attempt: SDA read with SCL high, and, where it read low, the clearing
pulses until it reads high and the stop condition. -/
def clearingLevels : SdaReading → List PortLevels
  | .high => [PortLevels.released]
  | .highAfter n =>
    { PortLevels.released with memory := false } ::
      ((List.replicate n.val (clearingPulse false)).flatten ++ clearingPulse true ++
        { PortLevels.released with scl := false } :: stopCondition)
  | .stuckLow =>
    { PortLevels.released with memory := false } ::
      (List.replicate 9 (clearingPulse false)).flatten

/-- Steps 2 to 5: the bytes with which the station selects location 0 of the memory. -/
def addressPhase : List PortLevels :=
  sentByte 0xA4 true ++ sentByte 0x00 true ++ repeatedStart ++ sentByte 0xA5 true

/-- The same steps up to the byte that the memory does not acknowledge, and the stop condition. -/
def failedPhase : AckPoint → List PortLevels
  | .writeAddress => sentByte 0xA4 false ++ stopCondition
  | .location => sentByte 0xA4 true ++ sentByte 0x00 false ++ stopCondition
  | .readAddress =>
    sentByte 0xA4 true ++ sentByte 0x00 true ++ repeatedStart ++ sentByte 0xA5 false ++ stopCondition

/-- Step 6: the data bytes, of which the station acknowledges all but the last. -/
def dataPhase : List Byte → List PortLevels
  | [] => []
  | b :: bs => readByte b (!bs.isEmpty) ++ dataPhase bs

/-! ### The pins -/

/-- The levels the port shows: the last it has carried, and both lines released before the first
(R157). -/
def State.port (s : State) : PortLevels := s.loader.wire.getLast?.getD PortLevels.released

/-- The SCL pin. -/
def State.scl (s : State) : Bit := s.port.scl

/-- The SDA pin. -/
def State.sda (s : State) : Bit := s.port.sda

end Sys2Proof.Machine
end

