-- ==== Sys2Proof/Machine/StartUp.lean ====
section
/-! DEFINITION. Reset, the clock start-up and the load of the configuration (chapter 9). -/

namespace Sys2Proof.Machine

/-! ### Resets (R157, R158) -/

/-- The station held by a reset, or just out of one: every block at its values after reset. What is
outside the station stays: the NCS pin and the queue. -/
def State.resetBlocks (s : State) (rst : ResetUnit) : State :=
  { State.reset with
    rst := rst
    monitor := { MonitorPort.reset with ncsLow := s.monitor.ncsLow }
    pending := s.pending }

/-- RESET (R157): a reset comes into force and its cause is recorded. While one is in force a second
cause leaves the record as it was, except that a power-on reset always writes POWER. -/
def execReset (cause : ResetCause) (s : State) : Host.Outcome State Fault Refusal :=
  if s.rst.inForce then
    .next { s with rst := { s.rst with cause := if cause = .power then .power else s.rst.cause } }
  else .next (s.resetBlocks { inForce := true, cause := cause })

/-- RESET_END (R158): every block stands at its values after reset and the clock starts. -/
def execResetEnd (s : State) : Host.Outcome State Fault Refusal :=
  if s.rst.inForce then .next (s.resetBlocks { inForce := false, cause := s.rst.cause })
  else .next s

/-! ### The attempts to read the image (R160, R161) -/

/-- The load ends FAILED and the station halts with cause CONFIG (R162, R164). -/
def State.failLoad (s : State) : State :=
  (State.enterHalted { s with loader := { s.loader with status := .failed, port := .idle } }
    .config).react

/-- An attempt fails: a wait of 10 ms where its count is below 4, else the load fails (R161). -/
def State.failAttempt (s : State) : State :=
  if s.loader.attempts < 4 then { s with loader := { s.loader with port := .retryWait } }
  else s.failLoad

/-- An attempt begins (R161): it is counted, the port is cleared where SDA reads low, and the start
condition is sent; where SDA stays low the attempt fails at once. -/
def State.beginAttempt (s : State) (sda : SdaReading) : State :=
  let l := { s.loader with attempts := s.loader.attempts + 1 }
  if sda = .stuckLow then
    State.failAttempt { s with loader := { l with wire := clearingLevels sda } }
  else
    { s with loader := { l with port := .attempt, wire := clearingLevels sda ++ startCondition } }

/-- CLOCK_READY (R147, R158, R159): the clock is ready, the load begins with the straps and the first
attempt. -/
def execClockReady (address : Address) (cls : StationClass) (sda : SdaReading) (s : State) :
    Host.Outcome State Fault Refusal :=
  if !s.rst.inForce && !s.power.clockReady && s.loader.status == .waiting then
    .next (State.beginAttempt
      { s with
        power := { s.power with clockReady := true }
        loader := { s.loader with
          status := .reading, straps := { address := address, cls := cls, sampled := true } } } sda)
  else .next s

/-- The loader is in the middle of an attempt. -/
def State.attempting (s : State) : Bool :=
  s.clocked && s.loader.status == .reading && s.loader.port == .attempt

/-- ATTEMPT_FAILED (R161): the memory does not acknowledge a byte; the image buffer is left as it is. -/
def execAttemptFailed (at_ : AckPoint) (s : State) : Host.Outcome State Fault Refusal :=
  if s.attempting then
    .next (State.failAttempt
      { s with loader := { s.loader with wire := s.loader.wire ++ failedPhase at_ } })
  else .next s

/-- RETRY_WAIT_EXPIRY (R161): the next attempt begins. -/
def execRetryWaitExpiry (sda : SdaReading) (s : State) : Host.Outcome State Fault Refusal :=
  if s.clocked && s.loader.status == .reading && s.loader.port == .retryWait then
    .next (s.beginAttempt sda)
  else .next s

/-! ### The image (R162, R163, R175) -/

/-- Byte `i` of an image. -/
def imageByte (image : List Byte) (i : Nat) : Nat := (image.getD i 0).toNat

/-- The fields of the configuration image (R175). -/
def decodeImage (image : List Byte) : Settings :=
  { budget := imageByte image 1
    maxLevel := imageByte image 2 / 16
    unitsPerLevel := imageByte image 2 % 16
    floorLevel := imageByte image 3
    pwmCode := Fin.ofNat 4 (imageByte image 4 / 4)
    rateCode := Fin.ofNat 4 (imageByte image 4)
    announcePeriod := imageByte image 5
    rampStep := imageByte image 6
    currentScale := imageByte image 7
    overdrawMargin := imageByte image 8
    sagThreshold := imageByte image 9
    sagHoldTime := imageByte image 10
    lockoutTime := imageByte image 11
    idleDelay := imageByte image 12
    dormantDelay := imageByte image 13 }

/-- The range checks of R162 on settled values. -/
def rangesPass (c : Settings) : Bool :=
  c.budget != 0 && c.unitsPerLevel != 0 && c.maxLevel != 0 && decide (c.floorLevel ≤ c.maxLevel) &&
    decide (5 ≤ c.announcePeriod) && decide (c.announcePeriod ≤ 250) && c.rampStep != 0 &&
    c.currentScale != 0 && c.sagHoldTime != 0 && c.lockoutTime != 0

/-- The image passes its checks (R162): format tag, CRC-8, ranges, the upper four bits of byte 4. -/
def imagePasses (image : List Byte) : Bool :=
  imageByte image 0 == 0x6C && crc8 (image.take 14) == image.getD 14 0 &&
    rangesPass (decodeImage image) && decide (imageByte image 4 < 16)

/-- Settlement (R163): the values are handed over, the line position is SEEK, the period state starts
with its first boundary, the converter is powered. -/
def State.settle (s : State) (c : Settings) : State :=
  State.react (State.startPeriods
    { s with
      config := some c
      loader := { s.loader with status := .settled, port := .idle }
      line := { s.line with position := .seek, idleRun := 0 } })

/-- The whole image has been read (R160): it is in the image buffer, and the port has carried the rest
of the attempt. -/
def State.readImage (s : State) (image : List Byte) : State :=
  { s with loader := { s.loader with
      image := image
      wire := s.loader.wire ++ addressPhase ++ dataPhase image ++ stopCondition } }

/-- ATTEMPT_COMPLETE (R160, R162 to R164): the fifteen bytes that the 120 bits read on SDA spell are in
the image buffer and are checked. -/
def execAttemptComplete (bits : List Bit) (s : State) : Host.Outcome State Fault Refusal :=
  if s.attempting && bits.length == 120 then
    let image := bytesOf bits
    .next (if imagePasses image then (s.readImage image).settle (decodeImage image)
      else (s.readImage image).failLoad)
  else .next s

end Sys2Proof.Machine
end

