-- ==== Sys2Proof/Machine/Ticks.lean ====
section
/-! DEFINITION. The 10 ms tick and the timers it drives (R9, R60, R68, R70, R71, R79, R80, R148,
R153). A tick that carries a timer into its limit takes what the rules say happens as the timer
reaches it; the row of the table that names one timer's end does the same for that timer alone
(log 3). -/

namespace Sys2Proof.Machine

/-- Silence ages count in GATHER and ACTIVE (R9). -/
def State.tickAges (s : State) : State :=
  if s.part.state == .active || s.part.state.isGather then { s with table := s.table.aged } else s

/-- The horizon timer counts in GATHER, ACTIVE and MUTE (R79). -/
def State.tickHorizon (s : State) : State :=
  if s.part.state == .active || s.part.state.isGather || s.part.state == .mute then
    { s with part := { s.part with
      horizon := s.part.horizon.ticked (2 * s.cfg.announcePeriod) } }
  else s

/-- The window timer counts in phase WINDOW, and the window closes as it reaches 2P (R60, R68). -/
def State.tickWindow (s : State) : State :=
  if s.part.state = .gather .window then
    if s.part.windowTimer + 1 < 2 * s.cfg.announcePeriod then
      { s with part := { s.part with windowTimer := s.part.windowTimer + 1 } }
    else s.closeWindow
  else s

/-- The announce timer counts in ACTIVE with power RUN, stops at P, and places a plain ANNOUNCE as it
reaches P (R70). -/
def State.tickAnnounce (s : State) : State :=
  if s.activeRun && decide (s.part.announceTimer < s.cfg.announcePeriod) then
    if s.part.announceTimer + 1 < s.cfg.announcePeriod then
      { s with part := { s.part with announceTimer := s.part.announceTimer + 1 } }
    else s.announceDue
  else s

/-- The idle timer counts while every idle condition holds and stops at the idle delay; it does not
run where the delay is 0 (R147, R148). -/
def State.tickIdle (s : State) : State :=
  if s.idle && decide (s.power.idleTimer < s.idleTicks) then
    { s with power := { s.power with idleTimer := s.power.idleTimer + 1 } }
  else s

/-- The dormant timer counts in LISTEN and stops at the dormant delay; it does not run where the delay
is 0 (R147, R153). -/
def State.tickDormant (s : State) : State :=
  if s.power.state == .listen && decide (s.power.dormantTimer < s.dormantTicks) then
    { s with power := { s.power with dormantTimer := s.power.dormantTimer + 1 } }
  else s

/-- TICK (R9, R60, R70, R71, R79, R148, R153). -/
def execTick (s : State) : Host.Outcome State Fault Refusal :=
  if s.settledRunning then
    .next
      s.tickAges.tickHorizon.tickWindow.tickAnnounce.tickIdle.tickDormant.lookForSilence.react
  else .next s

/-- SILENCE_LIMIT_REACHED (R71): in ACTIVE with power RUN, where a PRESENT peer has been silent for 3P,
an EVICT is placed. -/
def execSilenceLimitReached (s : State) : Host.Outcome State Fault Refusal :=
  if s.settledRunning then .next s.lookForSilence else .next s

/-- ANNOUNCE_TIMER_EXPIRY (R70): the announce timer's next tick, or its last, brings it to P. -/
def execAnnounceTimerExpiry (s : State) : Host.Outcome State Fault Refusal :=
  if s.settledRunning && s.activeRun &&
      decide (s.cfg.announcePeriod ≤ s.part.announceTimer + 1) then
    .next s.announceDue
  else .next s

/-- WINDOW_CLOSE (R68): the window timer's next tick brings it to 2P. -/
def execWindowClose (s : State) : Host.Outcome State Fault Refusal :=
  if s.settledRunning && s.part.state == .gather .window &&
      decide (2 * s.cfg.announcePeriod ≤ s.part.windowTimer + 1) then
    .next s.closeWindow.react
  else .next s

/-- The horizon timer's next tick brings it to 2P. -/
def Horizon.lastTick (limit : Nat) : Horizon → Bool
  | .counting n => decide (limit ≤ n + 1)
  | .expired => false

/-- HORIZON_EXPIRY (R79, R80): the horizon timer is expired, and in GATHER or MUTE the horizon limit
falls to 0 at once. -/
def execHorizonExpiry (s : State) : Host.Outcome State Fault Refusal :=
  if s.settledRunning &&
      (s.part.state == .active || s.part.state.isGather || s.part.state == .mute) &&
      s.part.horizon.lastTick (2 * s.cfg.announcePeriod) then
    .next (State.react { s with part := { s.part with horizon := .expired } })
  else .next s

/-- IDLE_TIMER_EXPIRY (R148): the idle timer's next tick brings it to the idle delay, where it stops. -/
def execIdleTimerExpiry (s : State) : Host.Outcome State Fault Refusal :=
  if s.settledRunning && s.idle && decide (0 < s.idleTicks) &&
      decide (s.idleTicks ≤ s.power.idleTimer + 1) then
    .next { s with power := { s.power with idleTimer := s.idleTicks } }
  else .next s

/-- DORMANT_TIMER_EXPIRY (R153): the dormant timer's next tick brings it to the dormant delay, where it
stops; the move itself is DORMANT_ENTRY (log 4). -/
def execDormantTimerExpiry (s : State) : Host.Outcome State Fault Refusal :=
  if s.settledRunning && s.power.state == .listen && decide (0 < s.dormantTicks) &&
      decide (s.dormantTicks ≤ s.power.dormantTimer + 1) then
    .next { s with power := { s.power with dormantTimer := s.dormantTicks } }
  else .next s

end Sys2Proof.Machine
end

