-- ==== Sys2Proof/Machine/Dispatch.lean ====
section
/-! DEFINITION. One arm per command: the meaning it calls. -/

namespace Sys2Proof.Machine

-- The effect of a command on everything but the queue.
def exec (i : Instr) (s : State) : Host.Outcome State Fault Refusal :=
  match i with
  | .reset cause => Sys2Proof.Machine.execReset cause s
  | .resetEnd => Sys2Proof.Machine.execResetEnd s
  | .clockReady address cls sda => Sys2Proof.Machine.execClockReady address cls sda s
  | .attemptFailed at_ => Sys2Proof.Machine.execAttemptFailed at_ s
  | .retryWaitExpiry sda => Sys2Proof.Machine.execRetryWaitExpiry sda s
  | .attemptComplete bits => Sys2Proof.Machine.execAttemptComplete bits s
  | .busIdle bits => Sys2Proof.Machine.execBusIdle bits s
  | .startOpportunity => Sys2Proof.Machine.execStartOpportunity s
  | .arbitrationLost bits => Sys2Proof.Machine.execArbitrationLost bits s
  | .bitError bits => Sys2Proof.Machine.execBitError bits s
  | .bitErrorWatchEnd bits => Sys2Proof.Machine.execBitErrorWatchEnd bits s
  | .formatError bits => Sys2Proof.Machine.execFormatError bits s
  | .jamRecognised bits => Sys2Proof.Machine.execJamRecognised bits s
  | .jamEnd => Sys2Proof.Machine.execJamEnd s
  | .tailDominant field => Sys2Proof.Machine.execTailDominant field s
  | .frameReceived bits => Sys2Proof.Machine.execFrameReceived bits s
  | .frameConfirmed ackSlot => Sys2Proof.Machine.execFrameConfirmed ackSlot s
  | .frameVoid ackSlot => Sys2Proof.Machine.execFrameVoid ackSlot s
  | .frameJammed => Sys2Proof.Machine.execFrameJammed s
  | .tick => Sys2Proof.Machine.execTick s
  | .silenceLimitReached => Sys2Proof.Machine.execSilenceLimitReached s
  | .announceTimerExpiry => Sys2Proof.Machine.execAnnounceTimerExpiry s
  | .windowClose => Sys2Proof.Machine.execWindowClose s
  | .horizonExpiry => Sys2Proof.Machine.execHorizonExpiry s
  | .idleTimerExpiry => Sys2Proof.Machine.execIdleTimerExpiry s
  | .listenEntry => Sys2Proof.Machine.execListenEntry s
  | .dormantTimerExpiry => Sys2Proof.Machine.execDormantTimerExpiry s
  | .dormantEntry => Sys2Proof.Machine.execDormantEntry s
  | .wake demand ninhHigh => Sys2Proof.Machine.execWake demand ninhHigh s
  | .wakeClockReady => Sys2Proof.Machine.execWakeClockReady s
  | .demandSample demand ninhHigh => Sys2Proof.Machine.execDemandSample demand ninhHigh s
  | .periodBoundary sinceStart => Sys2Proof.Machine.execPeriodBoundary s sinceStart
  | .conversionReady code => Sys2Proof.Machine.execConversionReady code s
  | .lockoutExpiry => Sys2Proof.Machine.execLockoutExpiry s
  | .sagHoldExpiry => Sys2Proof.Machine.execSagHoldExpiry s
  | .ncsFall => Sys2Proof.Machine.execNcsFall s
  | .ncsRise => Sys2Proof.Machine.execNcsRise s
  | .status => Sys2Proof.Machine.execStatus s
  | .entry address => Sys2Proof.Machine.execEntry address s
  | .counters => Sys2Proof.Machine.execCounters s
  | .events => Sys2Proof.Machine.execEvents s
  | .clear => Sys2Proof.Machine.execClear s
  | .unknownCommand command address => Sys2Proof.Machine.execUnknownCommand command address s
  | .sofRead => Sys2Proof.Machine.execSofRead s
  | .interframeEnd => Sys2Proof.Machine.execInterframeEnd s
  | .onTimeElapsed => Sys2Proof.Machine.execOnTimeElapsed s
  | .sckEdge rising mosi => Sys2Proof.Machine.execSckEdge rising mosi s

end Sys2Proof.Machine
end

