-- ==== Sys2Proof/Machine/Step.lean ====
section
/-! DEFINITION. One step of the station: the command at the front of the queue is taken. -/

namespace Sys2Proof.Machine

/-- One step: the first waiting command is taken off the queue and has its effect. On an empty queue
the block idles (log 2). -/
def step (s : State) : Host.Outcome State Fault Refusal :=
  match s.pending with
  | [] => .next s
  | c :: rest => exec c { s with pending := rest }

/-- The state with the command that a word spells put at the front of its queue; unchanged where the
word spells none. -/
def State.withFetchWord (s : State) (nbits w : Nat) : State :=
  match decodeTableWord nbits w with
  | some c => { s with pending := c :: s.pending }
  | none => s

end Sys2Proof.Machine
end

