-- ==== Sys2Proof/Safety.lean ====
section
/-! DEFINITION. What the rules promise of every state: the laws that no step breaks. Each law is
written so that it carries with it what it needs to be kept. -/

namespace Sys2Proof.Machine

/-! ### The configuration (R158, R163, R164) -/

/-- While the configuration is unloaded every block that depends on it stands at its values after
reset, in START or in HALTED with cause CONFIG (R158, R164), and HALTED with that cause goes with a
load that FAILED (R164); once settled its values are in range and the load status says so (R162,
R163). -/
structure LoadLaw (s : State) : Prop where
  unloaded : s.config = none →
    s.loader.status ≠ .settled ∧ s.table = Table.allAbsent ∧ s.lineCount = none ∧
    s.line = LineInterface.reset ∧ s.demand = DemandUnit.reset ∧ s.drive = LoadDrive.reset ∧
    s.sense = SenseUnit.reset ∧ s.power.state = .run ∧
    (s.part.state = .start ∨ s.part.state = .halted .config)
  halted : s.part.state = .halted .config → s.loader.status = .failed
  settled : ∀ c, s.config = some c →
    s.loader.status = .settled ∧ rangesPass c = true ∧ c.FitsImage

/-! ### The table (R10, R22 to R24) -/

/-- The entry at address `a` keeps R10 and R23: cleared where it is not PRESENT; at most four
records, none naming `a` and none of zero units, owing together no more than the holding. -/
structure Entry.Lawful (a : Address) (e : Entry) : Prop where
  cleared : e.presence ≠ .present → e = Entry.cleared e.presence
  four : e.debts.length ≤ 4
  named : ∀ d ∈ e.debts, d.creditor ≠ a ∧ 1 ≤ d.units
  covered : owed e.debts ≤ e.holding

/-- A table keeps R10, R23 and R24. -/
structure Table.Lawful (t : Table) : Prop where
  entries : ∀ a, (t.at a).Lawful a
  depths : ∀ a, t.shedDepth a ≤ 4

/-- The laws of the table, the budget law among them (R10, R22 to R24). -/
structure TableLaw (s : State) : Prop where
  load : LoadLaw s
  lawful : s.table.Lawful
  budget : s.table.held ≤ s.cfg.budget

/-- The units of a victim list. -/
def takenBy (victims : List Victim) : Nat := (victims.map (·.units)).sum

/-- The victims of a CLAIM give no more than its increment, as R30 takes them: what the verdicts of
ACTIVE stations see to, and what a station in GATHER, which checks no content (R61), relies on. -/
def Frame.Covered (f : Frame) : Prop :=
  match f.payload with
  | .claim _ increment victims => takenBy victims ≤ increment
  | .sag | .evict _ | .release _ _ _ | .announce _ _ _ _ _ => True

/-! ### The output (R80, R125, R133) -/

/-- The output level is within every limit, and GATE is high only for a level above 0. -/
structure OutputLaw (s : State) : Prop where
  load : LoadLaw s
  within : s.drive.output ≤ s.target
  gate : s.drive.gate = true → 0 < s.drive.output

/-! ### The line, the outbox and LISTEN (R57, R88, R113, R150) -/

/-- The outbox holds nothing but, it may be, a rejoin ANNOUNCE. -/
def Outbox.RejoinAlone (o : Outbox) : Prop :=
  o = Outbox.empty ∨ o = { Outbox.empty with announce := some .rejoin }

/-- Who drives what, what the outbox may hold, and what LISTEN promises. -/
structure LineLaw (s : State) : Prop where
  load : LoadLaw s
  /-- A frame is sent only where R57 permits one, from SOF to its outcome, and its request stays in
  the outbox (R112). In GATHER it is the rejoin ANNOUNCE. -/
  sender : s.line.role = .sender →
    s.line.position = .frame ∧ s.mayTransmit = true ∧
    ∃ f, s.line.tx = some f ∧ s.line.outbox.has f.payload.kind = true ∧
      (s.part.state ≠ .active → ∃ floor want, f.payload = .announce true floor want 0 [])
  /-- TXD carries frame bits for the sender alone. -/
  ownFrame : s.line.drive = .ownFrame → s.line.role = .sender
  /-- A slot or a jam is driven in ACTIVE alone (R57). -/
  slots : s.line.drive = .ackSlot ∨ s.line.drive = .dissentSlot ∨ s.line.drive = .jam →
    s.part.state = .active
  /-- The outbox is empty but in ACTIVE with power RUN and in phase REJOIN (R113). -/
  outbox : s.line.outbox = Outbox.empty ∨ s.activeRun = true ∨ s.part.state = .gather .rejoin
  /-- In phase REJOIN the rejoin request is alone in the outbox, and in ACTIVE it is not there (R114). -/
  rejoin : s.part.state = .gather .rejoin → s.line.outbox.RejoinAlone
  active : s.part.state = .active → s.line.outbox.announce ≠ some .rejoin
  /-- A frame with the own address is not held: the station has halted (R78). -/
  received : ∀ f, s.line.received = some f → f.sender ≠ s.own
  /-- The line position is OFF in SLEEP and in HALTED (R88). -/
  off : s.part.state = .sleep ∨ s.part.state.isHalted = true → s.line.position = .off
  /-- In START the station follows no frame (R58, R88). -/
  start : s.part.state = .start → s.line.position = .off ∨ s.line.position = .seek
  /-- LISTEN is a way of being ACTIVE and DORMANT goes with SLEEP. -/
  listen : s.power.state = .listen → s.part.state = .active
  dormant : s.power.state = .dormant → s.part.state = .sleep
  /-- While the power state is LISTEN, the own holding is zero and no debt record names the own
  address (R150). -/
  rest : s.power.state = .listen → s.ownHolding = 0 ∧ s.ownShedDepth = 0

/-! ### The ranges of counts and timers -/

/-- No counter has risen above 65535 (R170). -/
structure Counters.InRange (c : Counters) : Prop where
  framesConfirmed : c.framesConfirmed ≤ 65535
  framesVoid : c.framesVoid ≤ 65535
  ownConfirmed : c.ownConfirmed ≤ 65535
  dissentsDriven : c.dissentsDriven ≤ 65535
  timesShed : c.timesShed ≤ 65535
  overdrawTrips : c.overdrawTrips ≤ 65535
  localSags : c.localSags ≤ 65535
  evictEntries : c.evictEntries ≤ 65535

/-- The want and the floor that a frame carries fit their bytes (R84). -/
def Payload.WantFits : Payload → Prop
  | .release want _ _ => want ≤ 255
  | .claim want _ _ => want ≤ 255
  | .announce _ floor want _ _ => floor ≤ 255 ∧ want ≤ 255
  | .sag | .evict _ => True

/-- The counts that the rules bound (R9, R100, R101, R105, R111, R136 to R142, R158, R161, R170). -/
structure CountLaw (s : State) : Prop where
  load : LoadLaw s
  listen : s.power.state = .listen → s.part.state = .active
  start : s.part.state = .start → s.line.position = .off ∨ s.line.position = .seek
  asleep : s.part.state = .sleep → s.line.position = .off
  /-- The line fault count is 0 to 31 (R100), and below 16 but in MUTE and HALTED (R101). -/
  fault : s.line.faultCount ≤ 31
  faultBelow : s.part.state = .mute ∨ s.part.state.isHalted = true ∨ s.line.faultCount ≤ 15
  /-- Patience is 0 to 3, and 0 outside ACTIVE and whenever the want is met (R111). -/
  patience : s.demand.patience ≤ 3
  patienceZero : s.demand.patience ≠ 0 →
    s.part.state = .active ∧ s.allowedLevel < s.wantLevel
  counters : s.monitor.counters.InRange
  ages : ∀ a, (s.table.at a).age ≤ 65535
  /-- Floors and wants fit a byte (R1), as those of every frame that can bring them do. -/
  wants : ∀ a, (s.table.at a).floor ≤ 255 ∧ (s.table.at a).want ≤ 255
  frames : ∀ f, s.line.tx = some f ∨ s.line.received = some f → f.payload.WantFits
  highCount : s.demand.highCount ≤ 3
  blanking : s.sense.blanking ≤ 2
  overdrawRun : s.sense.overdrawRun ≤ 2
  sagRun : s.sense.sagRun ≤ 1
  schedule : s.sense.schedule ≤ 7
  attempts : s.loader.attempts ≤ 4
  waiting : s.loader.status = .waiting → s.loader.attempts = 0
  retry : s.loader.port = .retryWait → s.loader.attempts ≤ 3
  image : s.loader.image.length = 15

/-- The timers counted in ticks stand within their limits (R60, R70, R79, R148, R153). -/
structure TimerLaw (s : State) : Prop where
  load : LoadLaw s
  window : s.part.state = .gather .window → s.part.windowTimer < 2 * s.cfg.announcePeriod
  announce : s.part.announceTimer ≤ s.cfg.announcePeriod
  horizon : ∀ n, s.part.horizon = .counting n → n < 2 * s.cfg.announcePeriod
  idle : s.power.idleTimer ≤ s.idleTicks
  dormant : s.power.dormantTimer ≤ s.dormantTicks

/-! ### What a command leaves alone -/

/-- The reset unit, the loader, the configuration and the queue are as before. -/
structure SameSetup (s t : State) : Prop where
  rst : t.rst = s.rst
  loader : t.loader = s.loader
  config : t.config = s.config
  pending : t.pending = s.pending

/-- The table and the line count are as before. -/
structure SameTable (s t : State) : Prop where
  table : t.table = s.table
  lineCount : t.lineCount = s.lineCount

/-- The equipment side is as before: demand, drive and sense. -/
structure SameLoad (s t : State) : Prop where
  demand : t.demand = s.demand
  drive : t.drive = s.drive
  sense : t.sense = s.sense

/-- The monitor port but for its flags and counters is as before: no frame, tick, sample or
conversion reaches a transaction. -/
structure SamePort (s t : State) : Prop where
  ncsLow : t.monitor.ncsLow = s.monitor.ncsLow
  transaction : t.monitor.transaction = s.monitor.transaction
  snapshot : t.monitor.snapshot = s.monitor.snapshot
  miso : t.monitor.miso = s.monitor.miso

/-! ### What entering a participation state does (R60, R74, R77) -/

/-- LISTEN ends as participation leaves ACTIVE (R152). -/
def PowerControl.woken (p : PowerControl) : PowerState := if p.state = .listen then .run else p.state

/-- GATHER entry from `s` (R18, R60), with the GATHER flag where the station was shown stale. -/
structure EntersGather (stale : Bool) (s t : State) : Prop where
  phase : t.part.state = .gather .window
  windowTimer : t.part.windowTimer = 0
  announceTimer : t.part.announceTimer = 0
  reannounce : t.part.reannouncePending = false
  evicted : t.part.evictedInMute = false
  horizon : t.part.horizon = s.part.horizon
  peers : ∀ a, a ≠ s.own → t.table.at a = Entry.cleared .unknown
  own : t.table.at s.own =
    if s.part.evictedInMute = true then Entry.cleared .absent else s.table.at s.own
  lineCount : t.lineCount = none
  outbox : t.line.outbox = Outbox.empty
  demand : t.demand = { s.demand with patience := 0 }
  held : t.sense.lockout = s.sense.lockout ∧ t.sense.sagHold = s.sense.sagHold
  flags : t.monitor.flags = if stale = true then s.monitor.flags.raise .gather else s.monitor.flags
  power : t.power.state = s.power.woken
  output : t.drive.output ≤ t.target

/-- MUTE entry from `s` (R74). -/
structure EntersMute (s t : State) : Prop where
  state : t.part.state = .mute
  windowTimer : t.part.windowTimer = 0
  announceTimer : t.part.announceTimer = 0
  reannounce : t.part.reannouncePending = false
  horizon : t.part.horizon = s.part.horizon
  table : SameTable s t
  outbox : t.line.outbox = Outbox.empty
  demand : t.demand = { s.demand with patience := 0 }
  held : t.sense.lockout = s.sense.lockout ∧ t.sense.sagHold = s.sense.sagHold
  flags : t.monitor.flags = s.monitor.flags.raise .mute
  power : t.power.state = s.power.woken
  output : t.drive.output ≤ t.target

/-- HALTED entry from `s` (R77, R103). -/
structure EntersHalted (cause : HaltCause) (s t : State) : Prop where
  state : t.part.state = .halted cause
  windowTimer : t.part.windowTimer = s.part.windowTimer
  announceTimer : t.part.announceTimer = 0
  horizon : t.part.horizon = s.part.horizon
  position : t.line.position = .off
  role : t.line.role = .none
  drive : t.line.drive = .none
  fault : t.line.faultCount = s.line.faultCount
  outbox : t.line.outbox = Outbox.empty
  demand : t.demand = { s.demand with patience := 0 }
  held : t.sense.lockout = s.sense.lockout ∧ t.sense.sagHold = s.sense.sagHold
  flags : t.monitor.flags = s.monitor.flags.raise .halt
  power : t.power.state = s.power.woken
  output : t.drive.output = 0
  gate : (s.drive.gate = true → 0 < s.drive.output) → t.drive.gate = false

/-- An error the station takes as its own in `s` (R100, R101): the fault count rises by 2, and from
ACTIVE or GATHER a count of 16 or more is MUTE entry. -/
structure TakesOwnError (s t : State) : Prop where
  fault : t.line.faultCount = min 31 (s.line.faultCount + 2)
  mute : (s.part.state = .active ∨ s.part.state.isGather = true) → 16 ≤ s.line.faultCount + 2 →
    EntersMute s t
  stays : ¬ ((s.part.state = .active ∨ s.part.state.isGather = true) ∧
      16 ≤ s.line.faultCount + 2) →
    t.part = s.part ∧ t.power.state = s.power.state ∧ t.line.outbox = s.line.outbox ∧
      t.monitor.flags = s.monitor.flags

/-! ### What the two-wire port shows (R160) -/

/-- What a change of the levels of the two-wire port says: a condition; a rise of SCL, with what the
station and what the memory do to SDA in it, which is how a bit is clocked; or both lines changing at
once, which no bit and no condition does. -/
inductive PortEvent where
  | start | stop
  | rise (station memory : Bit)
  | clash
deriving DecidableEq, Repr

/-- What a change from levels `p` to levels `q` says, if anything: SDA falling or rising while SCL is
high is a start or a stop condition; SDA changing while SCL is low says nothing (R160). -/
def PortLevels.event (p q : PortLevels) : Option PortEvent :=
  if p.scl = q.scl then
    if p.scl = false ∨ p.sda = q.sda then none else if q.sda then some .stop else some .start
  else if p.sda ≠ q.sda then some .clash
  else if q.scl then some (.rise q.station q.memory)
  else none

/-- What levels that follow `p` say. -/
def portEvents : PortLevels → List PortLevels → List PortEvent
  | _, [] => []
  | p, q :: qs => (p.event q).toList ++ portEvents q qs

/-- A byte on the port, the station the sender (`sent`) or the memory, most significant bit first, and
the acknowledge bit, in which the other side pulls SDA low (R160). -/
def byteEvents (sent : Bool) (b : Byte) (acknowledged : Bool) : List PortEvent :=
  if sent then (byteBits b).map (fun v => .rise v true) ++ [.rise true (!acknowledged)]
  else (byteBits b).map (fun v => .rise true v) ++ [.rise (!acknowledged) true]

/-! ### Frames that a sender can send (R84, R172, R173) -/

/-- The fields fit their bytes and the lists their counts. -/
def Payload.Fits : Payload → Prop
  | .sag => True
  | .evict addresses => 1 ≤ addresses.length ∧ addresses.length ≤ 4
  | .release want decrement list =>
    want < 256 ∧ decrement < 256 ∧ list.length ≤ 4 ∧ ∀ x ∈ list, x.settled < 256 ∧ x.given < 256
  | .claim want increment victims =>
    want < 256 ∧ increment < 256 ∧ victims.length ≤ 4 ∧ ∀ v ∈ victims, v.units < 256
  | .announce _ floor want holding debts =>
    floor < 256 ∧ want < 256 ∧ holding < 256 ∧ debts.length ≤ 4 ∧ ∀ d ∈ debts, d.units < 256

end Sys2Proof.Machine
end

