-- ==== Sys2Proof/Certificates/Slice0/Obligations.lean ====
section
/-! DEFINITION. The statements for the provers, in the order of OBLIGATIONS.json. -/

section
open Sys2Proof Sys2Proof.Machine

/-! ### The queue and the step -/

/-- A step takes the command at the front of the queue and has its effect on the rest. -/
def Obligations.StepTakesTheFrontCommand : Prop :=
  ∀ (c : Instr) (rest : List Instr) (s : State), s.pending = c :: rest →
    step s = exec c { s with pending := rest }

/-- Every command answers a next state with the queue as it was (log 32: none faults or refuses). -/
def Obligations.NoCommandStopsOrTouchesTheQueue : Prop :=
  ∀ (c : Instr) (s : State), ∃ t, exec c s = .next t ∧ t.pending = s.pending

/-! ### Reset and the load -/

/-- The values that the rules give for after reset. -/
def Obligations.ResetLeavesTheStatedValues : Prop :=
  let s := State.reset
  (s.part.state = .start ∧ s.part.windowTimer = 0 ∧ s.part.announceTimer = 0 ∧
    s.part.horizon = .expired ∧ s.part.reannouncePending = false ∧
    s.part.evictedInMute = false) ∧
  (s.power.state = .run ∧ s.power.idleTimer = 0 ∧ s.power.dormantTimer = 0 ∧
    s.power.clockReady = false) ∧
  ((∀ a, s.table.at a = Entry.cleared .absent) ∧ s.lineCount = none) ∧
  (s.line.position = .off ∧ s.line.drive = .none ∧ s.line.faultCount = 0 ∧
    s.line.outbox = Outbox.empty) ∧
  (s.demand.level = 0 ∧ s.demand.sameCount = 0 ∧ s.demand.inhibit = true ∧
    s.demand.patience = 0 ∧ s.wantLevel = 0 ∧ s.wantUnits = 0) ∧
  (s.drive.output = 0 ∧ s.drive.gate = false ∧ s.drive.ramp = .stopped ∧ s.drive.period = none) ∧
  (s.sense.converter = .unpowered ∧ s.sense.schedule = 0 ∧ s.sense.limit = none ∧
    s.sense.overdrawRun = 0 ∧ s.sense.blanking = 0 ∧ s.sense.sagRun = 0 ∧
    s.sense.lockout = none ∧ s.sense.sagHold = none) ∧
  (s.loader.straps = { address := 0, cls := 0, sampled := false } ∧
    s.loader.image = List.replicate 15 0 ∧ s.loader.attempts = 0 ∧
    s.loader.status = .waiting ∧ s.config = none) ∧
  (s.monitor.flags = EventFlags.clear ∧ s.monitor.counters = Counters.zero ∧
    s.monitor.transaction = none ∧ s.monitor.snapshot = [] ∧ s.monitor.miso = true)

/-- RESET and RESET_END (R157, R158): a reset that comes into force puts every block at its values
after reset, with the cause recorded; a second cause leaves the record, but a power-on reset always
writes POWER; NATTN is released while a reset is in force; and as it ends every block stands at its values
after reset with the cause still recorded. The blocks that a reset holds are at their values after reset
(log 7); the NCS pin is outside the station. -/
def Obligations.ResetHoldsTheStationAndEnds : Prop :=
  (∀ (cause : ResetCause) (s : State), s.rst.inForce = false →
    exec (.reset cause) s = .next
      { State.reset with
        rst := { inForce := true, cause := cause }
        monitor := { MonitorPort.reset with ncsLow := s.monitor.ncsLow }
        pending := s.pending }) ∧
  (∀ (cause : ResetCause) (s : State), s.rst.inForce = true →
    exec (.reset cause) s = .next
      { s with rst :=
        { s.rst with cause := if cause = .power then ResetCause.power else s.rst.cause } }) ∧
  (∀ s : State, s.rst.inForce = true → s.attn = false) ∧
  (∀ s : State, s.rst.inForce = true →
      exec .resetEnd s = .next
        { State.reset with
          rst := { inForce := false, cause := s.rst.cause }
          monitor := { MonitorPort.reset with ncsLow := s.monitor.ncsLow }
          pending := s.pending })

/-- CLOCK_READY (R147, R159 to R161, R164): the clock is ready, the straps are sampled, the load is
READING and the first attempt begins: with a start condition where SDA reads high, after clearing pulses
and a stop condition where it reads high within nine. Where it stays low through nine pulses the attempt
fails at once, without a start condition: a wait below the fourth attempt, else the load ends FAILED. What
the two-wire port shows is read from its levels. -/
def Obligations.ClockReadyBeginsTheLoad : Prop :=
  let low : PortLevels := { scl := true, station := true, memory := false }
  (∀ (address : Address) (cls : StationClass) (sda : SdaReading) (s : State),
    s.rst.inForce = false → s.power.clockReady = false → s.loader.status = .waiting →
    let ready : PowerControl := { s.power with clockReady := true }
    let begun : Loader :=
      { s.loader with
        straps := { address := address, cls := cls, sampled := true }
        status := .reading, attempts := s.loader.attempts + 1 }
    (sda ≠ .stuckLow → exec (.clockReady address cls sda) s = .next
      { s with
        power := ready
        loader := { begun with
          port := .attempt, wire := clearingLevels sda ++ startCondition } }) ∧
    (s.loader.attempts + 1 < 4 → exec (.clockReady address cls .stuckLow) s = .next
      { s with
        power := ready
        loader := { begun with port := .retryWait, wire := clearingLevels .stuckLow } }) ∧
    (4 ≤ s.loader.attempts + 1 →
      ∃ t, exec (.clockReady address cls .stuckLow) s = .next t ∧ EntersHalted .config s t ∧
        t.power.clockReady = true ∧ SameTable s t ∧ t.loader = { begun with
          status := .failed, port := .idle, wire := clearingLevels .stuckLow })) ∧
  portEvents PortLevels.released (clearingLevels .high ++ startCondition) = [.start] ∧
  (∀ n : Fin 9, ∃ levels, clearingLevels (.highAfter n) = low :: levels ∧
    portEvents low (levels ++ startCondition) =
      List.replicate n.val (.rise true false) ++
        [.rise true true, .rise false true, .stop, .start]) ∧
  (∃ levels, clearingLevels .stuckLow = low :: levels ∧
    portEvents low levels = List.replicate 9 (.rise true false))

/-- RETRY_WAIT_EXPIRY and ATTEMPT_FAILED (R160, R161, R164): the next attempt begins, counted, as the
first did; where SDA stays low through nine pulses it fails without a start condition. At a byte the memory
does not acknowledge the station sends the stop condition, and the image buffer is left as it is. Below the
fourth attempt a failure is another wait; the fourth ends the load FAILED and halts the station with cause
CONFIG. -/
def Obligations.AttemptsAreRetriedUntilTheFourth : Prop :=
  (∀ (sda : SdaReading) (s : State),
      s.clocked = true → s.loader.status = .reading → s.loader.port = .retryWait →
      let begun : Loader :=
        { s.loader with attempts := s.loader.attempts + 1, wire := clearingLevels sda }
      (sda ≠ .stuckLow → exec (.retryWaitExpiry sda) s = .next
        { s with loader := { begun with
            port := .attempt, wire := clearingLevels sda ++ startCondition } }) ∧
      (sda = .stuckLow → s.loader.attempts + 1 < 4 → exec (.retryWaitExpiry sda) s = .next
        { s with loader := begun }) ∧
      (sda = .stuckLow → 4 ≤ s.loader.attempts + 1 →
        ∃ t, exec (.retryWaitExpiry sda) s = .next t ∧ EntersHalted .config s t ∧
          SameTable s t ∧ t.loader = { begun with status := .failed, port := .idle } ∧
          t.config = s.config)) ∧
  (∀ (p : AckPoint) (s : State),
      s.clocked = true → s.loader.status = .reading → s.loader.port = .attempt →
      let sent : List PortLevels := s.loader.wire ++ failedPhase p
      (s.loader.attempts < 4 →
        exec (.attemptFailed p) s = .next
          { s with loader := { s.loader with port := .retryWait, wire := sent } }) ∧
      (4 ≤ s.loader.attempts →
        ∃ t, exec (.attemptFailed p) s = .next t ∧ EntersHalted .config s t ∧ SameTable s t ∧
          t.loader = { s.loader with status := .failed, port := .idle, wire := sent } ∧
          t.config = s.config)) ∧
  (∀ p : AckPoint,
      portEvents { scl := false, station := false, memory := true } (failedPhase p) =
        (match p with
          | .writeAddress => byteEvents true 0xA4 false
          | .location => byteEvents true 0xA4 true ++ byteEvents true 0x00 false
          | .readAddress => byteEvents true 0xA4 true ++ byteEvents true 0x00 true ++
              [.rise true true, .start] ++ byteEvents true 0xA5 false) ++
          [.rise false true, .stop])

/-- The image checks (R162) in terms of the bytes. -/
def Obligations.ImagePassesExactlyItsChecks : Prop :=
  ∀ image : List Byte, image.length = 15 →
    (imagePasses image = true ↔
      imageByte image 0 = 0x6C ∧ crc8 (image.take 14) = image.getD 14 0 ∧
      imageByte image 1 ≠ 0 ∧ imageByte image 2 % 16 ≠ 0 ∧ imageByte image 2 / 16 ≠ 0 ∧
      imageByte image 3 ≤ imageByte image 2 / 16 ∧
      5 ≤ imageByte image 5 ∧ imageByte image 5 ≤ 250 ∧ imageByte image 6 ≠ 0 ∧
      imageByte image 7 ≠ 0 ∧ imageByte image 10 ≠ 0 ∧ imageByte image 11 ≠ 0 ∧
      imageByte image 4 < 16)

/-- ATTEMPT_COMPLETE (R160, R162 to R164, R175): an image that passes settles the configuration with its
fields, in SEEK, with the period state started and the converter in its first 20 µs, the participation
state START as before; one that does not ends the load FAILED and halts the station. The two-wire port has
then carried a whole attempt (R160): after its start condition the bytes 0xA4 and 0x00, a repeated start,
0xA5, and fifteen bytes from the memory, most significant bits first, each with the acknowledge bit of the
receiving side, the fifteenth unacknowledged, and a stop condition; both lines are released. -/
def Obligations.CompletedAttemptSettlesOrHalts : Prop :=
  ∀ (image : List Byte) (s : State), LoadLaw s → image.length = 15 →
    s.clocked = true → s.loader.status = .reading → s.loader.port = .attempt →
    let bits : List Bit := image.flatMap byteBits
    let carried (t : State) : Prop :=
      ∃ levels, t.loader.wire = s.loader.wire ++ levels ∧
        portEvents { scl := false, station := false, memory := true } levels =
          byteEvents true 0xA4 true ++ byteEvents true 0x00 true ++ [.rise true true, .start] ++
            byteEvents true 0xA5 true ++
            (image.take 14).flatMap (fun b => byteEvents false b true) ++
            (image.drop 14).flatMap (fun b => byteEvents false b false) ++
            [.rise false true, .stop] ∧
        t.port = PortLevels.released
    (imagePasses image = true →
      ∃ t c, exec (.attemptComplete bits) s = .next t ∧ carried t ∧ t.config = some c ∧
        c.budget = imageByte image 1 ∧ c.maxLevel = imageByte image 2 / 16 ∧
        c.unitsPerLevel = imageByte image 2 % 16 ∧ c.floorLevel = imageByte image 3 ∧
        c.pwmCode.val = imageByte image 4 / 4 ∧ c.rateCode.val = imageByte image 4 % 4 ∧
        c.announcePeriod = imageByte image 5 ∧ c.rampStep = imageByte image 6 ∧
        c.currentScale = imageByte image 7 ∧ c.overdrawMargin = imageByte image 8 ∧
        c.sagThreshold = imageByte image 9 ∧ c.sagHoldTime = imageByte image 10 ∧
        c.lockoutTime = imageByte image 11 ∧ c.idleDelay = imageByte image 12 ∧
        c.dormantDelay = imageByte image 13 ∧
        t.loader.status = .settled ∧ t.loader.image = image ∧ t.line.position = .seek ∧
        t.part = s.part ∧ t.demand = s.demand ∧ t.table = s.table ∧ t.lineCount = none ∧
        t.drive.output = 0 ∧ t.drive.gate = false ∧
        t.drive.period = some { onTime := 0, elapsed := 0 } ∧
        t.sense.converter = .settling ∧ t.sense.schedule = 1) ∧
    (imagePasses image = false →
      ∃ t, exec (.attemptComplete bits) s = .next t ∧ carried t ∧ EntersHalted .config s t ∧
        t.loader.status = .failed ∧ t.loader.image = image ∧ t.config = none)

/-! ### The traffic of the line -/

/-- BUS_IDLE (R58, R88): eleven recessive bits in a row in SEEK make the line READY; in START they
take the station to GATHER. -/
def Obligations.BusIdleMakesTheLineReady : Prop :=
  ∀ (before : List Bit) (s : State), s.clocked = true → s.line.position = .seek →
    (s.part.state ≠ .start →
      exec (.busIdle (before ++ List.replicate 11 recessive)) s = .next
        { s with line := { s.line with position := .ready, idleRun := 11 } }) ∧
    (s.part.state = .start →
      ∃ t, exec (.busIdle (before ++ List.replicate 11 recessive)) s = .next t ∧
        EntersGather false s t ∧ SameSetup s t ∧ SamePort s t ∧ t.line.position = .ready ∧
        t.line.faultCount = s.line.faultCount ∧ t.monitor.counters = s.monitor.counters)

/-- SOF_READ, TAIL_DOMINANT, INTERFRAME_END and JAM_END (R88, R90, R94): only the line interface
changes, the outbox and the fault count stand, and nothing is driven. -/
def Obligations.LinePositionMoves : Prop :=
  ∀ s : State, s.clocked = true →
    let ended : LineInterface :=
      { LineInterface.reset with faultCount := s.line.faultCount, outbox := s.line.outbox }
    let receives : LineInterface :=
      { ended with
        position := .frame, role := .receiver
        rx := { bits := [dominant], last := dominant, run := 1, edgeDue := false
                pending := false } }
    (s.line.position = .ready → exec .sofRead s = .next { s with line := receives }) ∧
    (s.line.position = .tail →
      exec (.tailDominant .interframe) s = .next { s with line := receives } ∧
      exec (.tailDominant .endField) s = .next
        { s with line := { ended with position := .seek } } ∧
      exec .interframeEnd s = .next { s with line := { ended with position := .ready } }) ∧
    (s.line.position = .jam →
      exec .jamEnd s = .next { s with line := { ended with position := .seek } })

/-- START_OPPORTUNITY (R89, R114): the first kind that is present and valid, in the order SAG, EVICT,
RELEASE, CLAIM, ANNOUNCE, is sent with the content its SOF fixes, and stays in the outbox; those tested
before it are withdrawn and those after it stay. Without a valid request every request present is
withdrawn, no SOF is driven and the line stays READY. Where no frame is permitted nothing is tested or
withdrawn. -/
def Obligations.StartOpportunityTestsTheOutboxInOrder : Prop :=
  (∀ (k : FrameKind) (s : State), s.clocked = true → s.line.position = .ready →
      s.mayTransmit = true → s.line.outbox.has k = true → s.valid k = true →
      (∀ j : FrameKind, j.code < k.code → s.line.outbox.has j = true → s.valid j = false) →
      ∃ t, exec .startOpportunity s = .next t ∧
        t.line.position = .frame ∧ t.line.role = .sender ∧ t.line.drive = .ownFrame ∧
        t.line.tx = some (s.ownFrame k) ∧ t.line.txBits = lineBits (s.ownFrame k) ∧
        t.line.outbox.has k = true ∧ t.line.faultCount = s.line.faultCount ∧
        (∀ j : FrameKind, j.code < k.code → s.line.outbox.has j = true →
          t.line.outbox.has j = false) ∧
        (∀ j : FrameKind, k.code < j.code → s.line.outbox.has j = true →
          t.line.outbox.has j = true) ∧
        SameSetup s t ∧ SameTable s t ∧ SameLoad s t ∧ t.part = s.part ∧ t.power = s.power ∧
        t.monitor = s.monitor) ∧
  (∀ s : State, s.clocked = true → s.line.position = .ready → s.mayTransmit = true →
    (∀ j : FrameKind, s.line.outbox.has j = true → s.valid j = false) →
    ∃ t, exec .startOpportunity s = .next t ∧
      (∀ j : FrameKind, s.line.outbox.has j = true → t.line.outbox.has j = false) ∧
      t.line = { s.line with outbox := t.line.outbox } ∧
      SameSetup s t ∧ SameTable s t ∧ SameLoad s t ∧ t.part = s.part ∧ t.power = s.power ∧
      t.monitor = s.monitor) ∧
  (∀ s : State, s.mayTransmit = false → exec .startOpportunity s = .next s)

/-- Claim sizing (R52): the target level is the largest level no greater than the want level whose
units less the own holding are covered by free plus the sheddable units. The CLAIM carries the
difference, the want units and the victim list of R30 from the same table. A target level no greater than
the own allowed level makes the request invalid, and the start opportunity that tests it withdraws it. -/
def Obligations.ClaimIsSizedByTheLargestCoveredLevel : Prop :=
  ∀ s : State,
    let upl := s.cfg.unitsPerLevel
    let room := s.table.free s.cfg.budget + s.table.sheddable s.own s.loader.straps.cls
    (s.targetLevel ≤ s.wantLevel ∧ s.targetLevel * upl - s.ownHolding ≤ room) ∧
    (∀ level, level ≤ s.wantLevel → level * upl - s.ownHolding ≤ room → level ≤ s.targetLevel) ∧
    (s.ownPayload .claim =
      .claim s.wantUnits (s.targetLevel * upl - s.ownHolding)
        (s.table.victimList s.cfg.budget s.own s.loader.straps.cls
          (s.targetLevel * upl - s.ownHolding))) ∧
    (s.targetLevel ≤ s.allowedLevel → s.valid .claim = false ∧
      (s.clocked = true → s.line.position = .ready → s.mayTransmit = true →
        s.line.outbox.claim = true →
        (∀ k : FrameKind, k.code < FrameKind.claim.code → s.line.outbox.has k = true →
          s.valid k = false) →
        ∃ t, exec .startOpportunity s = .next t ∧ t.line.outbox.claim = false))

/-- A valid own frame follows from the own table (R28, R44 to R49, R51 to R55): a receiver with the
sender's table and line count agrees with it. The premise on the own entry is what the own ANNOUNCE
wrote there (R16). -/
def Obligations.OwnFrameFollowsFromTheOwnTable : Prop :=
  ∀ (k : FrameKind) (c : Settings) (n : Byte) (s : State),
    s.config = some c → rangesPass c = true → s.lineCount = some n → s.part.state = .active →
    s.valid k = true →
    (s.ownEntry.isPresent = true →
      s.ownEntry.cls = s.loader.straps.cls ∧ s.ownEntry.floor = s.floorUnits) →
    s.agreesWith (s.ownFrame k) = true

/-- The content of own frames: identifier and line count (R51, R84, R111), RELEASE, ANNOUNCE and SAG
(R53 to R55), and the list of an EVICT (R71): that of the limit 3P, which holds the PRESENT peers that have
been silent so long, up to four, the largest silence age first and the lower address first among equals;
none that is left out stands before one that is listed. -/
def Obligations.OwnFrameContent : Prop :=
  (∀ (k : FrameKind) (s : State),
      (s.ownFrame k).rank.val = 3 - s.loader.straps.cls.val ∧ (s.ownFrame k).sender = s.own ∧
      (∀ n, s.lineCount = some n → (s.ownFrame k).lineCount = n + 1) ∧
      (k = .claim → (s.ownFrame k).wait.val = 3 - s.demand.patience) ∧
      (k ≠ .claim → (s.ownFrame k).wait.val = 3) ∧
      (s.ownFrame .release).payload = .release s.wantUnits (s.ownHolding - s.wantUnits)
        (s.table.settlementList s.own (s.ownHolding - s.wantUnits)) ∧
      (s.line.outbox.announce = some .rejoin →
        (s.ownFrame .announce).payload = .announce true s.floorUnits s.wantUnits 0 []) ∧
      (s.line.outbox.announce = some .plain →
        (s.ownFrame .announce).payload = .announce false s.floorUnits s.wantUnits s.ownHolding
          (if s.ownEntry.isPresent = true then s.ownEntry.debts else [])) ∧
      (s.ownFrame .sag).payload = .sag ∧
      (s.ownFrame .evict).payload =
        .evict (s.table.evictList s.own (3 * s.cfg.announcePeriod))) ∧
  (∀ (t : Table) (own : Address) (limit : Nat),
      let before (a b : Address) : Prop :=
        (t.at b).age < (t.at a).age ∨ ((t.at a).age = (t.at b).age ∧ a < b)
      let silent (a : Address) : Prop :=
        (t.at a).presence = .present ∧ a ≠ own ∧ limit ≤ (t.at a).age
      (t.evictList own limit).length ≤ 4 ∧ (t.evictList own limit).Pairwise before ∧
      (∀ a ∈ t.evictList own limit, silent a) ∧
      (∀ a, silent a → a ∉ t.evictList own limit →
        (t.evictList own limit).length = 4 ∧ ∀ b ∈ t.evictList own limit, before b a))

/-- ARBITRATION_LOST, BIT_ERROR and BIT_ERROR_WATCH_END (R91, R92, R95, R99). An identifier bit sent
recessive and read dominant makes the station a receiver of the frame from the bits it has read; its
request stays, its content is discarded, and no fault is counted. Any other difference abandons the frame,
and its request stays: a bit sent dominant and read recessive is an own error at once; a bit sent
recessive and read dominant starts a watch on the dominant run. A recessive bit before the run reaches ten
makes that an own error; a run of ten makes it a jam, for which no fault and one void frame is counted
(log 13). -/
def Obligations.SenderReadsBackItsBits : Prop :=
  (∀ (i : Nat) (s : State), s.sending = true → s.line.txBits[i]? = some recessive →
      isIdentifierBit i = true →
      exec (.arbitrationLost (s.line.txBits.take i ++ [dominant])) s = .next
        { s with line := { s.line with
            role := .receiver, tx := none, txBits := [], drive := .none
            rx := (readBits Rx.start (s.line.txBits.take i ++ [dominant])).1 } }) ∧
  (∀ (i : Nat) (s : State), s.sending = true → s.line.txBits[i]? = some dominant →
    ∃ t, exec (.bitError (s.line.txBits.take i ++ [recessive])) s = .next t ∧
      TakesOwnError s t ∧ t.line.position = .seek ∧ t.line.role = .none ∧ t.line.tx = none ∧
      t.line.drive = .none ∧ SameSetup s t ∧ SameTable s t ∧ SamePort s t ∧
      t.monitor.counters = s.monitor.counters) ∧
  (∀ (i : Nat) (s : State), s.sending = true → s.line.txBits[i]? = some recessive →
    isIdentifierBit i = false →
    exec (.bitError (s.line.txBits.take i ++ [dominant])) s = .next
      { s with line :=
        { LineInterface.reset with
          position := .frame, role := .watching
          rx := { Rx.start with run := dominantRun 0 (s.line.txBits.take i ++ [dominant]) }
          faultCount := s.line.faultCount, outbox := s.line.outbox } }) ∧
  (∀ (n : Nat) (s : State),
      s.clocked = true → s.line.position = .frame → s.line.role = .watching →
      (s.line.rx.run + n < 10 →
        ∃ t, exec (.bitErrorWatchEnd (List.replicate n dominant ++ [recessive])) s = .next t ∧
          TakesOwnError s t ∧ t.line.position = .seek ∧ t.line.role = .none ∧
          SameSetup s t ∧ SameTable s t ∧ SamePort s t ∧
          t.monitor.counters = s.monitor.counters) ∧
      (10 ≤ s.line.rx.run + n →
        exec (.bitErrorWatchEnd (List.replicate n dominant)) s = .next
          { s with
            line := { LineInterface.reset with
              position := .seek, faultCount := s.line.faultCount, outbox := s.line.outbox }
            monitor := { s.monitor with counters := { s.monitor.counters with
              framesVoid := min 65535 (s.monitor.counters.framesVoid + 1) } } }))

/-- What a receiver finds bit by bit (R85, R86, R93, R173): an edge bit that is recessive where it should be
dominant is a format error at once; one that is dominant where it should be recessive is pending, and
then a recessive bit, or the last CRC bit, is the format error and a run of ten a jam; any run of ten is a
jam. At the last CRC bit the frame is complete, or a format error where its CRC does not match, its kind
code is 5 to 7, or its length does not agree with its kind and count. -/
def Obligations.ReceiverFindsEdgeBitViolations : Prop :=
  (∀ (r : Rx) (b : Bit),
    (b = dominant → 9 ≤ r.run → r.event b = .jam) ∧
    (r.edgeDue = true → b = recessive → r.last = recessive → r.event b = .formatError) ∧
    (r.edgeDue = true → b = dominant → r.last = dominant → r.run < 9 →
      r.event b = .more ∧ (r.take b).pending = true ∧ (r.take b).bits = r.bits) ∧
    (r.pending = true → b = recessive → r.event b = .formatError) ∧
    (r.edgeDue = true → b ≠ r.last → r.run < 9 → r.pending = false →
      r.event b = .more ∧ (r.take b).pending = false ∧ (r.take b).bits = r.bits) ∧
    (r.edgeDue = false → ¬ (b = dominant ∧ 9 ≤ r.run) →
      let bits : List Bit := r.bits ++ [b]
      let last : Prop := 25 ≤ bits.length ∧ bits.length = 41 + 8 * natOf ((bits.drop 21).take 4)
      (last → r.pending = true → r.event b = .formatError) ∧
      (last → r.pending = false → parseFrame bits = none → r.event b = .formatError) ∧
      (∀ f, last → r.pending = false → parseFrame bits = some f → r.event b = .complete f) ∧
      (¬ last → ¬ (r.pending = true ∧ b = recessive) →
        r.event b = .more ∧ (r.take b).bits = bits ∧ (r.take b).pending = r.pending))) ∧
  (∀ bits : List Bit,
    let covered : List Bit := (bits.drop 1).take (bits.length - 17)
    let kind : Nat := natOf ((bits.drop 1).take 3)
    let payload : List Byte := bytesOf ((bits.drop 25).take (bits.length - 41))
    let count (i : Nat) : Nat := (payload.getD i 0).toNat % 8
    parseFrame bits ≠ none ↔
      crc16 covered = BitVec.ofNat 16 (natOf (bits.drop (bits.length - 16))) ∧
      (kind = 0 ∧ payload.length = 0 ∨
        kind = 1 ∧ 1 ≤ payload.length ∧ payload.length ≤ 4 ∨
        kind = 2 ∧ count 2 ≤ 4 ∧ payload.length = 3 + 3 * count 2 ∨
        kind = 3 ∧ count 2 ≤ 4 ∧ payload.length = 3 + 2 * count 2 ∨
        kind = 4 ∧ count 0 ≤ 4 ∧ payload.length = 4 + 2 * count 0))

/-- FORMAT_ERROR (R94, R99): the receiver takes the error as its own, then acts by the state it is in:
in ACTIVE it drives a jam and counts a void frame; elsewhere it drives nothing, counts nothing and
seeks bus idle. That the void frame is counted in the step of FORMAT_ERROR is the model's choice (log 13:
R99 counts a frame at its outcome). -/
def Obligations.FormatErrorJamsInActiveOnly : Prop :=
  ∀ (bits : List Bit) (s : State), s.receiving = true →
    (readBits s.line.rx bits).2 = .formatError →
    ∃ t, exec (.formatError bits) s = .next t ∧ TakesOwnError s t ∧
      (t.part.state = .active →
        t.line.position = .jam ∧ t.line.drive = .jam ∧
        t.monitor.counters = { s.monitor.counters with
          framesVoid := min 65535 (s.monitor.counters.framesVoid + 1) }) ∧
      (t.part.state ≠ .active →
        t.line.position = .seek ∧ t.line.drive = .none ∧
        t.monitor.counters = s.monitor.counters) ∧
      SameSetup s t ∧ SameTable s t ∧ SamePort s t

/-- JAM_RECOGNISED and FRAME_JAMMED (R86, R94, R98, R99): no fault is counted and one void frame is;
the request stays and no table changes. A receiver that recognises a jam in ACTIVE drives one of its own
(log 12); every other station seeks bus idle. -/
def Obligations.JamsOfOthersCountNoFault : Prop :=
  (∀ (bits : List Bit) (s : State), s.receiving = true → (readBits s.line.rx bits).2 = .jam →
      let active : Bool := s.part.state == .active
      exec (.jamRecognised bits) s = .next
        { s with
          line := { LineInterface.reset with
            position := if active then .jam else .seek
            drive := if active then .jam else .none
            faultCount := s.line.faultCount, outbox := s.line.outbox }
          monitor := { s.monitor with counters := { s.monitor.counters with
            framesVoid := min 65535 (s.monitor.counters.framesVoid + 1) } } }) ∧
  (∀ (f : Frame) (s : State), s.clocked = true → s.slotFrame = some f →
      exec .frameJammed s = .next
        { s with
          line := { LineInterface.reset with
            position := .seek, faultCount := s.line.faultCount, outbox := s.line.outbox }
          monitor := { s.monitor with counters := { s.monitor.counters with
            framesVoid := min 65535 (s.monitor.counters.framesVoid + 1) } } })

/-- A frame is read from its own line bits (R84, R85, R87, R172, R173): every frame that fits, put on
the line with its edge bits and CRC, is received whole and without a format error, and has
41 + 8 L frame bits and 5 + L edge bits from SOF to the last CRC bit. -/
def Obligations.EveryFrameIsReadFromItsLineBits : Prop :=
  ∀ f : Frame, f.payload.Fits →
    (readBits Rx.start (lineBits f)).2 = .complete f ∧
    (readBits Rx.afterSof ((lineBits f).drop 1)).2 = .complete f ∧
    (lineBits f).length =
      (41 + 8 * (payloadBytes f.payload).length) + (5 + (payloadBytes f.payload).length)

/-- The verdict (R44 to R49): the line count is the next one, and the frame carries what this station
computes from its table. -/
def Obligations.VerdictIsTheSumOfItsChecks : Prop :=
  ∀ (f : Frame) (n : Byte) (s : State), s.lineCount = some n →
    let e := s.table.at f.sender
    let cls := classOfRank f.rank
    let present := e.presence = .present
    (s.agreesWith f = true ↔
      f.lineCount = n + 1 ∧
      match f.payload with
      | .sag => True
      | .evict addresses => f.sender ∉ addresses
      | .release want k list =>
        present ∧ e.cls = cls ∧ k ≠ 0 ∧ k ≤ e.holding ∧ want = e.holding - k ∧
          list = s.table.settlementList f.sender k
      | .claim want k victims =>
        present ∧ e.cls = cls ∧ k ≠ 0 ∧ e.holding + k ≤ want ∧
          k ≤ s.table.free s.cfg.budget + s.table.sheddable f.sender cls ∧
          victims = s.table.victimList s.cfg.budget f.sender cls k
      | .announce true _ _ _ _ => True
      | .announce false floor _ holding debts =>
        (present → e.cls = cls ∧ floor = e.floor ∧ holding = e.holding ∧ debts = e.debts) ∧
          (¬ present → holding = 0 ∧ debts = []))

/-- FRAME_RECEIVED (R43, R78, R96): a frame with the own address halts the station with cause CONFLICT;
any other is held for its outcome, and in ACTIVE the verdict drives the ACK or the DISSENT slot, a
dissent being counted. The table is as it was. -/
def Obligations.ReceivedFrameIsCheckedBeforeItsSlots : Prop :=
  ∀ (bits : List Bit) (r : Rx) (f : Frame) (s : State), s.receiving = true →
    readBits s.line.rx bits = (r, .complete f) →
    let held : LineInterface := { s.line with rx := r, received := some f }
    (f.sender = s.own →
      ∃ t, exec (.frameReceived bits) s = .next t ∧ EntersHalted .conflict s t ∧
        SameSetup s t ∧ SameTable s t ∧ SamePort s t ∧
        t.monitor.counters = s.monitor.counters) ∧
    (f.sender ≠ s.own → s.part.state ≠ .active →
      exec (.frameReceived bits) s = .next { s with line := held }) ∧
    (f.sender ≠ s.own → s.part.state = .active → s.agreesWith f = true →
      exec (.frameReceived bits) s = .next
        { s with line := { held with verdict := some .agree, drive := .ackSlot } }) ∧
    (f.sender ≠ s.own → s.part.state = .active → s.agreesWith f = false →
      exec (.frameReceived bits) s = .next
        { s with
          line := { held with verdict := some .disagree, drive := .dissentSlot }
          monitor := { s.monitor with counters := { s.monitor.counters with
            dissentsDriven := min 65535 (s.monitor.counters.dissentsDriven + 1) } } })

/-! ### The grant table -/

/-- Debt stacks. A push (R5) is at the newest end, the oldest record of a full stack removed first; it
is not made for zero units, for the entry's own station, for an ABSENT creditor, or for one that four
records name. That the four records of a refused push are counted with the oldest one of a full stack is the model's
reading (log 19). Trimming (R7): a stack that owes more than the holding loses units from its oldest end
until it owes the holding: the records that remain are the newest, the last one touched with part of its
units. -/
def Obligations.DebtStacksArePushedAndTrimmed : Prop :=
  (∀ (t : Table) (owner creditor : Address) (units : Nat),
      let e := t.at owner
      (units = 0 ∨ creditor = owner ∨ (t.at creditor).presence = .absent ∨
          4 ≤ t.shedDepth creditor →
        t.push owner creditor units = t) ∧
      (units ≠ 0 → creditor ≠ owner → (t.at creditor).presence ≠ .absent →
          t.shedDepth creditor < 4 → e.debts.length ≤ 4 →
        (t.push owner creditor units).at owner =
          { e with debts :=
              (if e.debts.length = 4 then e.debts.tail else e.debts) ++
                [{ creditor := creditor, units := units }] } ∧
        ∀ a, a ≠ owner → (t.push owner creditor units).at a = t.at a)) ∧
  (∀ (holding : Nat) (debts : List DebtRecord), (∀ d ∈ debts, 1 ≤ d.units) →
      owed (trimTo holding debts) = min holding (owed debts) ∧
      (owed debts ≤ holding → trimTo holding debts = debts) ∧
      (∀ d ∈ trimTo holding debts, 1 ≤ d.units) ∧
      ∃ older newer, debts = older ++ newer ∧
        (trimTo holding debts = newer ∨
          ∃ d rest u, newer = d :: rest ∧ 0 < u ∧ u < d.units ∧
            trimTo holding debts = { d with units := u } :: rest))

/-- Victims (R29): the PRESENT entries of lower class, shed depth below 4 and excess above 0, other than
the claimant's; in order of lower class, then larger excess, then higher address; the first four are
considered, and the sheddable units are the sum of their excesses. Taking (R30): first from free, then from
the considered victims in order, each giving the lesser of its excess and what is still needed, a victim
that would give nothing not being listed; an accepted claim's units are all found. -/
def Obligations.VictimsAreConsideredAndTakenInOrder : Prop :=
  (∀ (t : Table) (claimant : Address) (cls : StationClass),
      let excess (a : Address) : Nat := (t.at a).holding - (t.at a).floor
      let eligible (a : Address) : Prop :=
        (t.at a).presence = .present ∧ a ≠ claimant ∧ (t.at a).cls < cls ∧ t.shedDepth a < 4 ∧
          0 < excess a
      let before (a b : Address) : Prop :=
        (t.at a).cls < (t.at b).cls ∨ ((t.at a).cls = (t.at b).cls ∧
          (excess b < excess a ∨ (excess a = excess b ∧ b < a)))
      (t.considered claimant cls).length ≤ 4 ∧
      (t.considered claimant cls).Pairwise before ∧
      (∀ a ∈ t.considered claimant cls, eligible a) ∧
      (∀ a, eligible a → a ∉ t.considered claimant cls →
        (t.considered claimant cls).length = 4 ∧ ∀ b ∈ t.considered claimant cls, before b a) ∧
      t.sheddable claimant cls = ((t.considered claimant cls).map excess).sum ∧
      t.considered claimant 0 = []) ∧
  (∀ (t : Table) (budget : Nat) (claimant : Address) (cls : StationClass) (n : Nat),
      let list := t.victimList budget claimant cls n
      list.length ≤ 4 ∧ (n ≤ t.free budget → list = []) ∧
      list.map (·.victim) = (t.considered claimant cls).take list.length ∧
      (∀ (i : Nat) (v : Victim), list[i]? = some v →
        v.units = min ((t.at v.victim).holding - (t.at v.victim).floor)
          (n - t.free budget - takenBy (list.take i)) ∧ 0 < v.units) ∧
      (n ≤ t.free budget + t.sheddable claimant cls →
        takenBy list = n - min n (t.free budget)))

/-- The application of an accepted CLAIM (R31, R32): each listed victim loses its units and its stack is
trimmed; the claimant gains the increment, takes the want, and its stack gains one record per victim, the
oldest forgiven above four; no other entry changes, and the budget law is kept. -/
def Obligations.ClaimMovesUnitsFromVictimsToClaimant : Prop :=
  ∀ (t : Table) (budget : Nat) (claimant : Address) (cls : StationClass) (want n : Nat),
    t.Lawful → t.held ≤ budget → (t.at claimant).presence = .present →
    n ≤ t.free budget + t.sheddable claimant cls →
    let list := t.victimList budget claimant cls n
    let u := t.applyClaim claimant want n list
    let e := t.at claimant
    let stack := e.debts ++ list.map fun v => { creditor := v.victim, units := v.units }
    (∀ v ∈ list, v.victim ≠ claimant ∧ u.at v.victim =
      { t.at v.victim with
        holding := (t.at v.victim).holding - v.units
        debts := trimTo ((t.at v.victim).holding - v.units) (t.at v.victim).debts }) ∧
    u.at claimant =
      { e with holding := e.holding + n, want := want, debts := stack.drop (stack.length - 4) } ∧
    (∀ a, a ≠ claimant → a ∉ list.map (·.victim) → u.at a = t.at a) ∧
    u.held ≤ budget

/-- The application of a RELEASE (R34 to R36): the walk settles the lesser of the decrement and the debts,
newest record first. Each record visited is settled with the lesser of its units and what remains, and its
creditor is given the lesser of that and its room: its want less its holding as the earlier steps of the
walk have raised it. The debtor's holding falls by the decrement; nothing else changes. -/
def Obligations.ReleaseRepaysTheNewestDebtsFirst : Prop :=
  ∀ (t : Table) (debtor : Address) (want k : Nat),
    t.Lawful → (t.at debtor).presence = .present → k ≤ (t.at debtor).holding →
    let list := t.settlementList debtor k
    let u := t.applyRelease debtor want k
    let e := t.at debtor
    let given (a : Address) (xs : List Settlement) : Nat :=
      ((xs.filter fun x => x.creditor == a).map (·.given)).sum
    let room (i : Nat) (a : Address) : Nat :=
      if (t.at a).presence = .present then
        (t.at a).want - ((t.at a).holding + given a (list.take i))
      else 0
    (∀ (i : Nat) (x : Settlement), list[i]? = some x →
      ∃ d, e.debts.reverse[i]? = some d ∧ x.creditor = d.creditor ∧
        x.settled = min d.units (k - ((list.take i).map (·.settled)).sum) ∧ 1 ≤ x.settled ∧
        x.given = min x.settled (room i x.creditor)) ∧
    (list.map (·.settled)).sum = min k (owed e.debts) ∧
    u.at debtor =
      { e with holding := e.holding - k, want := want
               debts := (trimBy k e.debts.reverse).reverse } ∧
    (∀ a, a ≠ debtor → u.at a = { t.at a with holding := (t.at a).holding + given a list }) ∧
    u.held ≤ t.held

/-- The eviction of a named entry (R8, R17, R37, R38, R64): a PRESENT one is settled in full and cleared
ABSENT, and no record names it any more: each other entry gains what the settlement of the whole holding
gives it, but for the own entry in GATHER, and loses the records that name the evicted station. An UNKNOWN
one becomes ABSENT and the records that name it are removed; an ABSENT one is passed over. A list of
addresses is taken in order. -/
def Obligations.EvictionSettlesAndClearsTheEntry : Prop :=
  (∀ (t : Table) (keepOut : Option Address) (x : Address), t.Lawful →
    let u := t.evict keepOut x
    let given (a : Address) : Nat :=
      (((t.settlementList x (t.at x).holding).filter fun y => y.creditor == a).map (·.given)).sum
    let forgiven (a : Address) : List DebtRecord :=
      (t.at a).debts.filter fun d => d.creditor != x
    ((t.at x).presence = .present →
      u.at x = Entry.cleared .absent ∧
      (∀ a, a ≠ x → u.at a = { t.at a with
        holding := (t.at a).holding + (if keepOut = some a then 0 else given a)
        debts := forgiven a }) ∧
      u.Lawful ∧ u.held ≤ t.held) ∧
    ((t.at x).presence = .unknown →
      u.at x = Entry.cleared .absent ∧
      (∀ a, a ≠ x → u.at a = { t.at a with debts := forgiven a }) ∧ u.Lawful ∧
      u.held = t.held) ∧
    ((t.at x).presence = .absent → u = t)) ∧
  (∀ (t : Table) (keepOut : Option Address) (own : Address) (xs : List Address),
    (t.evictAll keepOut own xs).table = xs.foldl (fun u x => u.evict keepOut x) t)

/-- The application of an ANNOUNCE (R16, R40, R41, R65, R66): in ACTIVE a plain one sets a PRESENT entry's
want or makes the entry PRESENT at holding 0. A rejoin one makes it PRESENT at holding 0 whatever it was:
each other entry gains what the settlement of the whole holding of a PRESENT sender gives it, but for the
own entry in GATHER, and loses the records that name the sender. -/
def Obligations.AnnounceUpdatesOrCreatesTheEntry : Prop :=
  ∀ (t : Table) (keepOut : Option Address) (f : Frame) (floor want : Nat),
    let e := t.at f.sender
    let fresh : Entry :=
      { presence := .present, cls := classOfRank f.rank, floor := floor, want := want, holding := 0
        debts := [], age := 0 }
    let given (a : Address) : Nat :=
      if e.presence = .present ∧ keepOut ≠ some a then
        (((t.settlementList f.sender e.holding).filter fun y => y.creditor == a).map
          (·.given)).sum
      else 0
    let u := t.applyRejoin keepOut f floor want
    (e.presence = .present → (t.applyPlain f floor want).at f.sender = { e with want := want }) ∧
    (e.presence ≠ .present → (t.applyPlain f floor want).at f.sender = fresh) ∧
    (∀ a, a ≠ f.sender → (t.applyPlain f floor want).at a = t.at a) ∧
    (t.Lawful →
      u.at f.sender = fresh ∧
      (∀ a, a ≠ f.sender → u.at a = { t.at a with
        holding := (t.at a).holding + given a
        debts := (t.at a).debts.filter fun d => d.creditor != f.sender }) ∧
      u.Lawful ∧ u.held ≤ t.held)

/-- The partial rules of GATHER (R62 to R66), by the kind of the frame. A CLAIM takes the listed units from
PRESENT victims, and a PRESENT claimant gains the increment, takes the want and has its records pushed. A
RELEASE lowers a PRESENT debtor's holding, reduces its records and trims its stack; PRESENT creditors other
than the own station gain what they are given, whatever the debtor. The records are reduced each by the
entry of its own place among those that name its creditor, newest record first (an entry of 0 settled units
reduces one too: log 8). An EVICT and a rejoin ANNOUNCE settle without a gift to the own entry. A plain
ANNOUNCE takes the entry whole from the frame, with its records copied as R5 pushes them (log 18) and
trimmed. Applications lower the own entry but do not raise it. -/
def Obligations.GatherAppliesThePartialRules : Prop :=
  (∀ (t : Table) (own : Address) (f : Frame),
      let u := t.applyGather own f
      u.repaid = false ∧
      match f.payload with
      | .sag => u.table = t ∧ u.evicted = 0
      | .evict xs =>
        u.table = xs.foldl (fun v x => v.evict (some own) x) t ∧
          u.evicted = addresses.countP fun a => xs.contains a && (t.at a).isPresent
      | .release want k list => u.table = t.gatherRelease own f.sender want k list ∧ u.evicted = 0
      | .claim want n victims => u.table = t.applyClaim f.sender want n victims ∧ u.evicted = 0
      | .announce true floor want _ _ =>
        u.table = t.applyRejoin (some own) f floor want ∧ u.evicted = 0
      | .announce false floor want holding debts =>
        u.table = t.gatherPlain f floor want holding debts ∧ u.evicted = 0) ∧
  (∀ (t : Table) (claimant : Address) (want n : Nat) (victims : List Victim), t.Lawful →
      let u := t.applyClaim claimant want n victims
      let left (a : Address) : Entry :=
        let h := (t.at a).holding - takenBy (victims.filter fun v => v.victim == a)
        if (t.at a).presence = .present then
          { t.at a with holding := h, debts := trimTo h (t.at a).debts }
        else t.at a
      let gained : Entry :=
        { left claimant with holding := (left claimant).holding + n, want := want }
      (∀ a, a ≠ claimant → u.at a = left a) ∧
      ((t.at claimant).presence ≠ .present → u.at claimant = t.at claimant) ∧
      ((t.at claimant).presence = .present →
        u.at claimant = { gained with debts := (u.at claimant).debts } ∧
        ∃ v : Table, v.at claimant = gained ∧ (∀ a, a ≠ claimant → v.at a = left a) ∧
          u = victims.foldl (fun w x => w.push claimant x.victim x.units) v)) ∧
  (∀ (t : Table) (own debtor : Address) (want k : Nat) (list : List Settlement),
      let u := t.gatherRelease own debtor want k list
      let given (a : Address) : Nat :=
        if (t.at a).presence = .present ∧ a ≠ own then
          ((list.filter fun x => x.creditor == a).map (·.given)).sum
        else 0
      let e := t.at debtor
      (∀ a, a ≠ debtor → u.at a = { t.at a with holding := (t.at a).holding + given a }) ∧
      (e.presence ≠ .present → u.at debtor = e) ∧
      (e.presence = .present → u.at debtor =
        { e with
          holding := e.holding - k + given debtor, want := want
          debts := trimTo (e.holding - k) (reduceAll list e.debts) })) ∧
  (∀ (list : List Settlement) (debts : List DebtRecord),
      (reduceAll list debts).reverse =
        (List.range debts.length).filterMap fun i =>
          debts.reverse[i]?.bind fun d =>
            let place := (debts.reverse.take i).countP fun x => x.creditor == d.creditor
            match (list.filter fun x => x.creditor == d.creditor)[place]? with
            | none => some d
            | some x =>
              if d.units ≤ x.settled then none else some { d with units := d.units - x.settled }) ∧
  (∀ (t : Table) (f : Frame) (floor want holding : Nat) (debts : List DebtRecord),
      let u := t.gatherPlain f floor want holding debts
      let fresh : Entry :=
        { presence := .present, cls := classOfRank f.rank, floor := floor, want := want
          holding := holding, debts := [], age := 0 }
      let copied := debts.foldl (fun w r => w.push f.sender r.creditor r.units)
        (t.put f.sender fresh)
      (∀ a, a ≠ f.sender → u.at a = t.at a) ∧
      u.at f.sender = { fresh with debts := trimTo holding (copied.at f.sender).debts } ∧
      (t.Lawful → debts.length ≤ 4 → u.Lawful) ∧
      ((∀ d ∈ debts, d.units ≠ 0 ∧ d.creditor ≠ f.sender ∧
          (t.at d.creditor).presence ≠ .absent ∧
          (t.put f.sender fresh).shedDepth d.creditor +
            debts.countP (fun x => x.creditor == d.creditor) ≤ 4) →
        debts.length ≤ 4 → (u.at f.sender).debts = trimTo holding debts)) ∧
  (∀ (t : Table) (own : Address) (f : Frame), f.sender ≠ own →
    ((t.applyGather own f).table.at own).holding ≤ (t.at own).holding)

/-! ### The outcomes of a frame -/

/-- FRAME_CONFIRMED in ACTIVE (R9, R26 to R28, R31 to R42, R97, R99, R100, R117): the frame's kind is applied
to the table, the sender's silence age is 0, the line count takes the frame's value; the fault count falls
by one, the counters rise, those of the entries an EVICT makes ABSENT among them; the sender's request is
removed and a RELEASE or a CLAIM is placed where its condition then holds. REPAID is raised where a RELEASE,
an EVICT or a rejoin gives units to the own entry. The second part says by which application each kind
changes the table. That the line is in TAIL at this command is the model's choice (log 14: R97 has it at the
first End bit). -/
def Obligations.ConfirmedFrameIsAppliedInActive : Prop :=
  (∀ (ack : Bit) (f : Frame) (s : State), s.clocked = true → s.part.state = .active →
    s.slotFrame = some f → s.line.verdict ≠ some .disagree → s.agreesWith f = true →
    let applied := s.table.applyActive s.own f
    ∃ t, exec (.frameConfirmed ack) s = .next t ∧
      t.table = applied.table.heard f.sender ∧
      t.lineCount = some f.lineCount ∧ t.part.state = .active ∧ t.power.state = s.power.state ∧
      t.line.position = .tail ∧ t.line.role = .none ∧ t.line.drive = .none ∧
      t.line.faultCount = s.line.faultCount - 1 ∧
      t.monitor.counters.framesConfirmed = min 65535 (s.monitor.counters.framesConfirmed + 1) ∧
      t.monitor.counters.ownConfirmed =
        (if s.line.role = .sender then min 65535 (s.monitor.counters.ownConfirmed + 1)
         else s.monitor.counters.ownConfirmed) ∧
      t.monitor.counters.framesVoid = s.monitor.counters.framesVoid ∧
      (∀ xs, f.payload = .evict xs → t.monitor.counters.evictEntries =
        min 65535 (s.monitor.counters.evictEntries + applied.evicted)) ∧
      (f.payload.kind ≠ .evict →
        t.monitor.counters.evictEntries = s.monitor.counters.evictEntries) ∧
      t.monitor.flags.repaid = (s.monitor.flags.repaid || applied.repaid) ∧
      (t.line.outbox.release = true ↔
        (s.line.outbox.release = true ∧ ¬ (s.line.role = .sender ∧ f.payload.kind = .release)) ∨
          t.releaseDue = true) ∧
      (t.line.outbox.claim = true ↔
        (s.line.outbox.claim = true ∧ ¬ (s.line.role = .sender ∧ f.payload.kind = .claim)) ∨
          t.claimDue = true) ∧
      (∀ want k list, f.payload = .release want k list →
        t.monitor.flags = { s.monitor.flags with
          repaid := s.monitor.flags.repaid || applied.repaid }) ∧
      t.demand = { s.demand with patience := t.demand.patience } ∧
      t.sense.lockout = s.sense.lockout ∧ t.sense.limit = s.sense.limit ∧
      t.drive.period = s.drive.period ∧ t.part.windowTimer = s.part.windowTimer ∧
      t.drive.output ≤ t.target ∧ SameSetup s t ∧ SamePort s t) ∧
  (∀ (t : Table) (own : Address) (f : Frame),
    let u := t.applyActive own f
    let gives (list : List Settlement) : Prop := ∃ x ∈ list, x.creditor = own ∧ 0 < x.given
    match f.payload with
    | .sag => u.table = t ∧ u.repaid = false ∧ u.evicted = 0
    | .evict xs =>
      let reached (i : Nat) : Table := (xs.take i).foldl (fun v x => v.evict none x) t
      u.table = reached xs.length ∧
      u.evicted = addresses.countP (fun a => xs.contains a && (t.at a).isPresent) ∧
      (u.repaid = true ↔ ∃ i x, xs[i]? = some x ∧ ((reached i).at x).presence = .present ∧
        gives ((reached i).settlementList x ((reached i).at x).holding))
    | .release want k list =>
      u.table = t.applyRelease f.sender want k ∧ (u.repaid = true ↔ gives list) ∧ u.evicted = 0
    | .claim want n victims =>
      u.table = t.applyClaim f.sender want n victims ∧ u.repaid = false ∧ u.evicted = 0
    | .announce true floor want _ _ =>
      u.table = t.applyRejoin none f floor want ∧ u.evicted = 0 ∧
      (u.repaid = true ↔ (t.at f.sender).presence = .present ∧
        gives (t.settlementList f.sender (t.at f.sender).holding))
    | .announce false floor want _ _ =>
      u.table = t.applyPlain f floor want ∧ u.repaid = false ∧ u.evicted = 0)

/-- In ACTIVE, a station applies a frame only if the frame's line count is one greater (mod 256) than its
own; the line count then takes the frame's value (R27). -/
def Obligations.OnlyTheNextLineCountIsApplied : Prop :=
  ∀ (ack : Bit) (f : Frame) (s t : State), s.part.state = .active → s.slotFrame = some f →
    exec (.frameConfirmed ack) s = .next t →
    t.table ≠ s.table ∨ t.lineCount ≠ s.lineCount →
    ∃ n, s.lineCount = some n ∧ f.lineCount = n + 1 ∧ t.lineCount = some f.lineCount

/-- A confirmed CLAIM in ACTIVE (R33, R111): SHED and the times-shed counter where the own address is
listed (log 17); patience returns to 0 on the own claim and where the want is met, and rises by one, to no
more than 3, where the want level exceeded the own allowed level before. -/
def Obligations.ConfirmedClaimShedsAndCountsPatience : Prop :=
  ∀ (ack : Bit) (f : Frame) (want n : Nat) (victims : List Victim) (s : State),
    s.clocked = true → s.part.state = .active → s.slotFrame = some f →
    s.line.verdict ≠ some .disagree → s.agreesWith f = true →
    f.payload = .claim want n victims →
    ∃ t, exec (.frameConfirmed ack) s = .next t ∧
      (s.own ∈ victims.map (·.victim) →
        t.monitor.flags = { s.monitor.flags with shed := true } ∧
        t.monitor.counters.timesShed = min 65535 (s.monitor.counters.timesShed + 1)) ∧
      (s.own ∉ victims.map (·.victim) →
        t.monitor.flags = s.monitor.flags ∧
        t.monitor.counters.timesShed = s.monitor.counters.timesShed) ∧
      (s.line.role = .sender ∨ t.wantLevel ≤ t.allowedLevel → t.demand.patience = 0) ∧
      (s.line.role ≠ .sender → t.allowedLevel < t.wantLevel → s.allowedLevel < s.wantLevel →
        t.demand.patience = min 3 (s.demand.patience + 1)) ∧
      (s.line.role ≠ .sender → t.allowedLevel < t.wantLevel → s.wantLevel ≤ s.allowedLevel →
        t.demand.patience = s.demand.patience)

/-- A confirmed EVICT that names the station in ACTIVE (R39, R72): the own entry is not PRESENT, the
output is 0, EVICTED is raised, the horizon is expired, the note re-announce pending is set, and in power
RUN a plain ANNOUNCE is in the outbox. -/
def Obligations.OwnEvictionCutsAndReannounces : Prop :=
  ∀ (ack : Bit) (f : Frame) (addresses : List Address) (s : State),
    s.clocked = true → s.part.state = .active → s.slotFrame = some f →
    s.line.role = .receiver → s.line.verdict ≠ some .disagree → s.agreesWith f = true →
    f.payload = .evict addresses → s.own ∈ addresses →
    ∃ t, exec (.frameConfirmed ack) s = .next t ∧ t.part.state = .active ∧
      t.ownEntry.presence ≠ .present ∧ t.ownHolding = 0 ∧ t.allowedLevel = 0 ∧
      t.drive.output = 0 ∧ t.monitor.flags.evicted = true ∧ t.part.horizon = .expired ∧
      t.part.reannouncePending = true ∧ t.claimDue = false ∧
      (s.power.state = .run → t.line.outbox.announce ≠ none) ∧
      (s.power.state ≠ .run → t.line.outbox = s.line.outbox)

/-- A confirmed own plain ANNOUNCE (R16, R70, R72): the announce timer restarts, the note re-announce
pending clears, the request is removed, and the own entry is PRESENT with the want carried. -/
def Obligations.OwnAnnounceRestartsItsTimer : Prop :=
  ∀ (ack : Bit) (f : Frame) (floor want holding : Nat) (debts : List DebtRecord) (s : State),
    s.clocked = true → s.part.state = .active → s.slotFrame = some f → f.sender = s.own →
    s.line.role = .sender → s.line.verdict ≠ some .disagree → s.agreesWith f = true →
    f.payload = .announce false floor want holding debts →
    ∃ t, exec (.frameConfirmed ack) s = .next t ∧
      t.part.announceTimer = 0 ∧ t.part.reannouncePending = false ∧
      t.part.horizon = .counting 0 ∧ t.line.outbox.announce = none ∧
      t.ownEntry.presence = .present ∧ t.ownEntry.want = want ∧ t.ownEntry.age = 0

/-- A confirmed SAG in ACTIVE (R42, R144, R145): in power RUN sag hold starts at the configured time, so
that the output is no more than the floor level; in LISTEN it does not start. Its line count is adopted. No
flag, no count of local sags and no table entry but the sender's silence age changes. -/
def Obligations.ConfirmedSagStartsSagHold : Prop :=
  ∀ (ack : Bit) (f : Frame) (s : State), s.clocked = true → s.part.state = .active →
    s.slotFrame = some f → s.line.verdict ≠ some .disagree → s.agreesWith f = true →
    f.payload = .sag →
    ∃ t, exec (.frameConfirmed ack) s = .next t ∧ t.table = s.table.heard f.sender ∧
      t.lineCount = some f.lineCount ∧ t.monitor.flags = s.monitor.flags ∧
      t.monitor.counters.localSags = s.monitor.counters.localSags ∧
      (s.power.state = .run →
        t.sense.sagHold = some s.cfg.sagHoldTime ∧ t.drive.output ≤ s.cfg.floorLevel) ∧
      (s.power.state ≠ .run → t.sense.sagHold = s.sense.sagHold)

/-- FRAME_CONFIRMED in GATHER (R38, R59, R61, R64, R66, R67, R69): within the budget the frame is applied by
the partial rules, its line count adopted, and the own rejoin ANNOUNCE makes the station ACTIVE; a CLAIM
that lists the own address raises SHED and is counted, an EVICT is counted by its PRESENT entries, and one
that names the own address raises EVICTED and expires the horizon. Above the budget the station is HALTED
with cause BUDGET and nothing is applied. That the completed frame is still counted then is the model's
choice (log 16), and so is TAIL at this command (log 14: R97 has it at the first End bit). -/
def Obligations.ConfirmedFrameInGather : Prop :=
  ∀ (ack : Bit) (phase : GatherPhase) (f : Frame) (s : State), s.clocked = true →
    s.part.state = .gather phase → s.slotFrame = some f → s.line.verdict ≠ some .disagree →
    let applied := s.table.applyGather s.own f
    let counted : State :=
      { s with
        line := { s.line with faultCount := s.line.faultCount - 1 }
        part := { s.part with
          horizon := if s.line.role = .sender then .counting 0 else s.part.horizon } }
    let shed : Bool :=
      match f.payload with
      | .claim _ _ victims => (victims.map (·.victim)).contains s.own
      | .sag | .evict _ | .release _ _ _ | .announce _ _ _ _ _ => false
    let named : Bool :=
      match f.payload with
      | .evict xs => xs.contains s.own
      | .sag | .claim _ _ _ | .release _ _ _ | .announce _ _ _ _ _ => false
    (s.cfg.budget < applied.table.held →
      ∃ t, exec (.frameConfirmed ack) s = .next t ∧ EntersHalted .budget counted t ∧
        SameTable s t ∧ SameSetup s t ∧ SamePort s t) ∧
    (applied.table.held ≤ s.cfg.budget →
      ∃ t, exec (.frameConfirmed ack) s = .next t ∧ t.table = applied.table.heard f.sender ∧
        t.lineCount = some f.lineCount ∧ t.line.position = .tail ∧
        t.line.faultCount = s.line.faultCount - 1 ∧
        t.monitor.counters.framesConfirmed =
          min 65535 (s.monitor.counters.framesConfirmed + 1) ∧
        t.monitor.flags = { s.monitor.flags with
          shed := s.monitor.flags.shed || shed, evicted := s.monitor.flags.evicted || named } ∧
        t.monitor.counters.timesShed =
          (if shed = true then min 65535 (s.monitor.counters.timesShed + 1)
           else s.monitor.counters.timesShed) ∧
        (∀ xs, f.payload = .evict xs → t.monitor.counters.evictEntries =
          min 65535 (s.monitor.counters.evictEntries + applied.evicted)) ∧
        (f.payload.kind ≠ .evict →
          t.monitor.counters.evictEntries = s.monitor.counters.evictEntries) ∧
        t.part.horizon = (if named = true then .expired else counted.part.horizon) ∧
        (s.line.role = .sender → t.part.state = .active ∧ t.part.announceTimer = 0) ∧
        (s.line.role ≠ .sender → t.part.state = s.part.state ∧
          t.part.announceTimer = s.part.announceTimer) ∧
        t.drive.output ≤ t.target ∧ SameSetup s t ∧ SamePort s t)

/-- FRAME_CONFIRMED in MUTE (R75, R79): nothing is applied; an EVICT naming the station is noted, raises
EVICTED and expires the horizon; a fault count brought to 4 or less takes the station to GATHER, where
the note makes the own entry ABSENT. TAIL at this command is the model's choice (log 14: R97 has it at the
first End bit). -/
def Obligations.ConfirmedFrameInMute : Prop :=
  ∀ (ack : Bit) (f : Frame) (s : State), s.clocked = true → s.part.state = .mute →
    s.slotFrame = some f → s.line.role = .receiver → s.line.verdict ≠ some .disagree →
    let named : Bool :=
      match f.payload with
      | .evict addresses => addresses.contains s.own
      | .sag | .release _ _ _ | .claim _ _ _ | .announce _ _ _ _ _ => false
    let noted : State :=
      if named = true then
        { s with
          part := { s.part with horizon := .expired, evictedInMute := true }
          monitor := { s.monitor with flags := { s.monitor.flags with evicted := true } } }
      else s
    ∃ t, exec (.frameConfirmed ack) s = .next t ∧ SameSetup s t ∧ SamePort s t ∧
      t.line.position = .tail ∧ t.line.faultCount = s.line.faultCount - 1 ∧
      (5 < s.line.faultCount → SameTable s t ∧ t.part = noted.part ∧
        t.monitor.flags = noted.monitor.flags) ∧
      (s.line.faultCount ≤ 5 → EntersGather false noted t)

/-- FRAME_VOID in ACTIVE (R73, R98, R99): a sender without ACK, and a dissenter beside an agreeing
receiver, enter GATHER with the GATHER flag; every other station stays as it is, and a sender that read
the ACK slot dominant keeps its request. -/
def Obligations.VoidFrameShowsWhoIsStale : Prop :=
  ∀ (f : Frame) (s : State), s.clocked = true → s.part.state = .active →
    s.slotFrame = some f →
    let ended : State :=
      { s with
        line := { LineInterface.reset with
          position := .tail, faultCount := s.line.faultCount - 1, outbox := s.line.outbox }
        monitor := { s.monitor with counters := { s.monitor.counters with
          framesVoid := min 65535 (s.monitor.counters.framesVoid + 1) } } }
    let stale (ack : Bit) : Prop :=
      ∃ t, exec (.frameVoid ack) s = .next t ∧ EntersGather true s t ∧
        t.line.position = .tail ∧ t.line.faultCount = s.line.faultCount - 1 ∧
        t.monitor.counters = ended.monitor.counters ∧ SameSetup s t ∧ SamePort s t
    (s.line.role = .sender → exec (.frameVoid dominant) s = .next ended) ∧
    (s.line.role = .sender → s.line.verdict = none → stale recessive) ∧
    (s.line.role = .receiver → s.line.verdict = some .disagree → stale dominant) ∧
    (s.line.role = .receiver → s.line.verdict = some .disagree →
      exec (.frameVoid recessive) s = .next ended) ∧
    (s.line.role = .receiver → s.line.verdict = some .agree →
      ∀ ack, exec (.frameVoid ack) s = .next ended)

/-- FRAME_VOID in GATHER and MUTE (R59, R69, R75, R98): an own rejoin without ACK returns the station to
phase WINDOW with its line count unadopted and the request removed; in MUTE a fault count brought to 4 or
less takes the station to GATHER. The table is otherwise as it was. -/
def Obligations.VoidFrameInGatherAndMute : Prop :=
  ∀ (ack : Bit) (f : Frame) (s : State), s.clocked = true → s.slotFrame = some f →
    let ended : State :=
      { s with
        line := { LineInterface.reset with
          position := .tail, faultCount := s.line.faultCount - 1, outbox := s.line.outbox }
        monitor := { s.monitor with counters := { s.monitor.counters with
          framesVoid := min 65535 (s.monitor.counters.framesVoid + 1) } } }
    (s.part.state = .gather .rejoin → s.line.role = .sender → s.line.verdict = none →
      exec (.frameVoid recessive) s = .next
        { ended with
          lineCount := none
          line := { ended.line with outbox := { s.line.outbox with announce := none } }
          part := { s.part with state := .gather .window, windowTimer := 0 } } ∧
      exec (.frameVoid dominant) s = .next ended) ∧
    (s.part.state.isGather = true → s.line.role = .receiver →
      exec (.frameVoid ack) s = .next ended) ∧
    (s.part.state = .mute →
      ∃ t, exec (.frameVoid ack) s = .next t ∧ SameSetup s t ∧ SamePort s t ∧
        t.line.position = .tail ∧ t.line.faultCount = s.line.faultCount - 1 ∧
        t.monitor.counters = ended.monitor.counters ∧
        (5 < s.line.faultCount → SameTable s t ∧ t.part = s.part) ∧
        (s.line.faultCount ≤ 5 → EntersGather false s t))

/-! ### The laws that every step keeps -/

/-- The laws hold right after reset. -/
def Obligations.LawsHoldAtReset : Prop :=
  LoadLaw State.reset ∧ TableLaw State.reset ∧ OutputLaw State.reset ∧ LineLaw State.reset ∧
    CountLaw State.reset ∧ TimerLaw State.reset

/-- While the configuration is unloaded every block that depends on it stands at its values after reset;
once settled its values are in range (R158, R162 to R164). -/
def Obligations.UnloadedStationStandsStill : Prop :=
  ∀ s t : State, LoadLaw s → step s = .next t → LoadLaw t

/-- The sum of the holdings of the PRESENT entries never exceeds the budget (R22); every debt stack keeps
R23, and no address is named by more than four records (R24); an entry that is not PRESENT is cleared
(R10). A station in GATHER checks no content (R61): there the CLAIM on the line is one whose victims give
no more than its increment, as R30 makes every claim. -/
def Obligations.BudgetAndDebtLawsAreKept : Prop :=
  ∀ s t : State, TableLaw s →
    (s.part.state.isGather = true → ∀ f, s.slotFrame = some f → f.Covered) →
    step s = .next t → TableLaw t

/-- The output level never exceeds the own allowed level, nor any other limit, after any step, and is
zero while the own entry is not PRESENT; a rise is by one level (R125). In MUTE and GATHER it is no more
than the floor level, and zero once the horizon is expired (R80). GATE is low outside power RUN and in
START, SLEEP and HALTED (R133). -/
def Obligations.OutputStaysWithinItsLimits : Prop :=
  ∀ s t : State, OutputLaw s → step s = .next t →
    OutputLaw t ∧ t.drive.output ≤ t.allowedLevel ∧ t.drive.output ≤ s.drive.output + 1 ∧
    (t.ownEntry.presence ≠ .present → t.drive.output = 0) ∧
    (t.part.state = .mute ∨ t.part.state.isGather = true →
      t.drive.output ≤ t.cfg.floorLevel ∧ (t.part.horizon = .expired → t.drive.output = 0)) ∧
    (t.power.state ≠ .run ∨ t.part.state = .start ∨ t.part.state = .sleep ∨
      t.part.state.isHalted = true → t.drive.gate = false)

/-- A station transmits no frame and drives no slot or jam in START, MUTE, SLEEP or HALTED, and transmits
no frame in LISTEN; in GATHER it drives nothing but its rejoin ANNOUNCE, in phase REJOIN (R57). While the
power state is LISTEN, the own holding is zero, no debt record names the own address (R150), and the
outbox is empty (R113). -/
def Obligations.LineOutboxAndListenLawsAreKept : Prop :=
  ∀ s t : State, LineLaw s → step s = .next t →
    LineLaw t ∧
    (t.part.state = .start ∨ t.part.state = .mute ∨ t.part.state = .sleep ∨
      t.part.state.isHalted = true → t.line.drive = .none) ∧
    (t.power.state = .listen →
      t.line.drive ≠ .ownFrame ∧ t.ownHolding = 0 ∧ t.ownShedDepth = 0 ∧
        t.line.outbox = Outbox.empty) ∧
    (t.part.state.isGather = true → t.line.drive ≠ .none →
      t.line.drive = .ownFrame ∧ t.part.state = .gather .rejoin ∧
        ∃ f floor want, t.line.tx = some f ∧ f.payload = .announce true floor want 0 [])

/-- Counts and timers stay in their ranges: the line fault count (R100, R101), patience (R111), the
counters (R170), the silence ages (R9), the sense unit's counts (R136 to R142), the attempts (R161), and
the timers counted in ticks (R60, R70, R79, R148, R153). -/
def Obligations.CountsAndTimersStayInRange : Prop :=
  (∀ s t : State, CountLaw s → step s = .next t → CountLaw t) ∧
  (∀ s t : State, TimerLaw s → step s = .next t → TimerLaw t)

/-- Holdings, debt stacks and presence change at the confirmation point of a frame, at GATHER entry, at
the close of the gather window, at SLEEP entry and at reset, and at no other moment (R21). -/
def Obligations.TableChangesOnlyAtItsMoments : Prop :=
  ∀ (c : Instr) (s t : State), exec c s = .next t →
    (∀ a, (t.table.at a).presence = (s.table.at a).presence ∧
      (t.table.at a).holding = (s.table.at a).holding ∧
      (t.table.at a).debts = (s.table.at a).debts) ∨
    ((∃ ack f, c = .frameConfirmed ack ∧ s.slotFrame = some f) ∨
      (s.part.state.isGather = false ∧ t.part.state = .gather .window) ∨
      (s.part.state = .gather .window ∧ t.part.state = .gather .rejoin) ∨
      (s.power.state = .listen ∧ t.part.state = .sleep) ∨
      (∃ cause, c = .reset cause) ∨ c = .resetEnd)

/-! ### The tick and the timers -/

/-- TICK (R9, R60, R68, R70, R71, R79, R148, R153): what each timer does on one tick. That a tick which
carries a timer to its limit takes what the rules say happens there, beside the row of the table that names
it, is the model's reading (log 3). -/
def Obligations.TickAdvancesTheTimers : Prop :=
  ∀ s : State, s.settledRunning = true →
    let period := s.cfg.announcePeriod
    let counts : Prop := s.part.state = .active ∨ s.part.state.isGather = true
    let closes : Prop :=
      s.part.state = .gather .window ∧ 2 * period ≤ s.part.windowTimer + 1
    let aged (a : Address) : Nat := min 65535 ((s.table.at a).age + 1)
    ∃ t, exec .tick s = .next t ∧
      (∀ a, counts → (s.table.at a).presence = .present → (t.table.at a).age = aged a) ∧
      (¬ counts → t.table = s.table) ∧
      (¬ closes → (∀ a, t.table.at a = { s.table.at a with age := (t.table.at a).age }) ∧
        t.lineCount = s.lineCount ∧ t.part.state = s.part.state) ∧
      (closes →
        (∀ a, (s.table.at a).presence = .unknown → t.table.at a = Entry.cleared .absent) ∧
        (∀ a, (s.table.at a).presence ≠ .unknown → t.table.at a =
          { s.table.at a with
            age := (t.table.at a).age
            debts := (s.table.at a).debts.filter fun d =>
              (s.table.at d.creditor).presence != .unknown }) ∧
        t.lineCount = some (s.lineCount.getD 0) ∧ t.part.state = .gather .rejoin ∧
        t.line.outbox.announce ≠ none) ∧
      (s.part.state = .gather .window → s.part.windowTimer + 1 < 2 * period →
        t.part.windowTimer = s.part.windowTimer + 1) ∧
      (counts ∨ s.part.state = .mute → t.part.horizon =
        match s.part.horizon with
        | .counting n => if n + 1 < 2 * period then .counting (n + 1) else .expired
        | .expired => .expired) ∧
      (¬ (counts ∨ s.part.state = .mute) → t.part.horizon = s.part.horizon) ∧
      (s.activeRun = true → t.part.announceTimer =
        if s.part.announceTimer < period then s.part.announceTimer + 1
        else s.part.announceTimer) ∧
      (s.activeRun = true → s.part.announceTimer < period →
        period ≤ s.part.announceTimer + 1 → t.line.outbox.announce ≠ none) ∧
      (s.activeRun = false → t.part.announceTimer = s.part.announceTimer) ∧
      (s.activeRun = true →
        (t.line.outbox.evict = true ↔ s.line.outbox.evict = true ∨
          ∃ a, (s.table.at a).presence = .present ∧ a ≠ s.own ∧ 3 * period ≤ aged a)) ∧
      (s.idle = true → t.power.idleTimer =
        if s.power.idleTimer < s.idleTicks then s.power.idleTimer + 1
        else s.power.idleTimer) ∧
      (s.idle = false → t.power.idleTimer = 0) ∧
      (s.power.state = .listen → t.power.dormantTimer =
        if s.power.dormantTimer < s.dormantTicks then s.power.dormantTimer + 1
        else s.power.dormantTimer) ∧
      t.power.state = s.power.state ∧ t.line = { s.line with outbox := t.line.outbox } ∧
      t.drive.output ≤ t.target ∧ t.monitor = s.monitor ∧ SameSetup s t

/-- SILENCE_LIMIT_REACHED, ANNOUNCE_TIMER_EXPIRY, WINDOW_CLOSE and HORIZON_EXPIRY (R68, R70, R71, R79,
R80): what the rules say happens as each timer reaches its limit (log 3). -/
def Obligations.TimersActAtTheirLimits : Prop :=
  ∀ s : State, s.settledRunning = true →
    let period := s.cfg.announcePeriod
    (s.activeRun = true →
      (∃ a, (s.table.at a).presence = .present ∧ a ≠ s.own ∧
        3 * period ≤ (s.table.at a).age) →
      exec .silenceLimitReached s = .next
        { s with line := { s.line with outbox := { s.line.outbox with evict := true } } }) ∧
    (s.activeRun = true → period ≤ s.part.announceTimer + 1 →
      exec .announceTimerExpiry s = .next
        { s with
          part := { s.part with announceTimer := period }
          line := { s.line with outbox := { s.line.outbox with
            announce := some (s.line.outbox.announce.getD .plain) } } }) ∧
    (s.part.state = .gather .window → 2 * period ≤ s.part.windowTimer + 1 →
      ∃ t, exec .windowClose s = .next t ∧
        (∀ a, (s.table.at a).presence = .unknown → t.table.at a = Entry.cleared .absent) ∧
        (∀ a, (s.table.at a).presence ≠ .unknown → t.table.at a =
          { s.table.at a with
            debts := (s.table.at a).debts.filter fun d =>
              (s.table.at d.creditor).presence != .unknown }) ∧
        t.lineCount = some (s.lineCount.getD 0) ∧ t.part.state = .gather .rejoin ∧
        t.part.horizon = s.part.horizon ∧
        t.line = { s.line with outbox := { s.line.outbox with
          announce := some (s.line.outbox.announce.getD .rejoin) } } ∧
        t.monitor = s.monitor ∧ SameSetup s t) ∧
    (∀ n, s.part.horizon = .counting n → 2 * period ≤ n + 1 →
      (s.part.state = .active ∨ s.part.state.isGather = true ∨ s.part.state = .mute) →
      ∃ t, exec .horizonExpiry s = .next t ∧ t.part = { s.part with horizon := .expired } ∧
        (s.part.state ≠ .active → t.drive.output = 0) ∧ t.line = s.line ∧
        t.monitor = s.monitor ∧ SameTable s t ∧ SameSetup s t)

/-! ### Rest and wake -/

/-- IDLE_TIMER_EXPIRY and LISTEN_ENTRY (R148, R149): the idle timer stops at the idle delay, and with
the outbox empty the station enters LISTEN: output 0, the period state stopped, the converter unpowered
with its runs and blanking at 0, everything on the line as it was. That the timer's end is one command and
the move to LISTEN another is the model's reading (logs 3 and 4). -/
def Obligations.IdleStationEntersListen : Prop :=
  ∀ s : State, s.settledRunning = true → s.idle = true → 0 < s.idleTicks →
    (s.idleTicks ≤ s.power.idleTimer + 1 →
      exec .idleTimerExpiry s = .next
        { s with power := { s.power with idleTimer := s.idleTicks } }) ∧
    (s.idleTicks ≤ s.power.idleTimer → s.line.outbox = Outbox.empty →
      ∃ t, exec .listenEntry s = .next t ∧
        t.power = { s.power with state := .listen, idleTimer := 0, dormantTimer := 0 } ∧
        t.drive = { output := 0, ramp := .stopped, period := none, gate := false } ∧
        t.sense = { SenseUnit.reset with
          lockout := s.sense.lockout, sagHold := s.sense.sagHold } ∧
        t.part = s.part ∧ t.line = s.line ∧ t.demand = s.demand ∧ t.monitor = s.monitor ∧
        SameTable s t ∧ SameSetup s t)

/-- DORMANT_TIMER_EXPIRY, DORMANT_ENTRY, WAKE and WAKE_CLOCK_READY (R76, R102, R153 to R156): the dormant
timer stops at the dormant delay, and from SEEK or READY the station enters SLEEP and DORMANT; demand with
NINH high starts the clock, and as it is ready the station enters GATHER from SEEK. The model's choices in
it: that the timer's end moves no state (logs 3 and 4), the window timer at 0 in SLEEP (log 25), the
snapshot dropped at DORMANT entry (log 27), and the count of high NINH samples at 0 at the wake (log 22). -/
def Obligations.RestGoesToDormantAndWakes : Prop :=
  (∀ s : State, s.settledRunning = true → s.power.state = .listen → 0 < s.dormantTicks →
    s.dormantTicks ≤ s.power.dormantTimer + 1 →
    exec .dormantTimerExpiry s = .next
      { s with power := { s.power with dormantTimer := s.dormantTicks } }) ∧
  (∀ s : State, s.settledRunning = true → s.power.state = .listen → 0 < s.dormantTicks →
    s.dormantTicks ≤ s.power.dormantTimer →
    s.line.position = .seek ∨ s.line.position = .ready →
    ∃ t, exec .dormantEntry s = .next t ∧
      t.power = { state := .dormant, idleTimer := 0, dormantTimer := 0, clockReady := false } ∧
      t.part =
        { state := .sleep, windowTimer := 0, announceTimer := 0, horizon := .expired
          reannouncePending := false, evictedInMute := false } ∧
      (∀ a, t.table.at a = Entry.cleared .absent) ∧ t.lineCount = none ∧
      t.line = { LineInterface.reset with faultCount := s.line.faultCount } ∧
      t.drive.output = 0 ∧ t.drive.gate = false ∧ t.drive.period = none ∧
      t.sense.converter = .unpowered ∧ t.demand = { s.demand with patience := 0 } ∧
      t.monitor = { s.monitor with transaction := none, snapshot := [], miso := true } ∧
      SameSetup s t) ∧
  (∀ (pins : DemandLevel) (s : State), s.rst.inForce = false → s.power.state = .dormant →
    (pins ≠ 0 → exec (.wake pins true) s = .next
      { s with power := { s.power with state := .run, clockReady := false } }) ∧
    exec (.wake pins false) s = .next s ∧ ∀ high, exec (.wake 0 high) s = .next s) ∧
  (∀ s : State, s.rst.inForce = false → s.power.state = .run → s.part.state = .sleep →
    s.power.clockReady = false →
    ∃ t, exec .wakeClockReady s = .next t ∧
      EntersGather false
        { s with demand := { s.demand with sameCount := 0, highCount := 0 } } t ∧
      t.power.clockReady = true ∧ t.line.position = .seek ∧ t.drive.period ≠ none ∧
      t.sense.converter = .settling ∧ t.line.faultCount = s.line.faultCount ∧ SameSetup s t ∧
      t.monitor = s.monitor)

/-! ### The equipment side -/

/-- DEMAND_SAMPLE (R104 to R107, R151): debounce, INHIBIT, the decision at a change of want, and the
return from LISTEN to RUN where the want becomes nonzero. -/
def Obligations.DemandSampleDebouncesAndDecides : Prop :=
  ∀ (pins : DemandLevel) (high : Bool) (s : State), s.settledRunning = true →
    let d := s.demand
    let count := if pins = d.lastSample then d.sameCount + 1 else 1
    ∃ t, exec (.demandSample pins high) s = .next t ∧
      t.demand.lastSample = pins ∧ t.demand.sameCount = count ∧
      t.demand.level = (if 3 ≤ count then pins else d.level) ∧
      (high = false → t.demand.inhibit = true ∧ t.demand.highCount = 0) ∧
      (high = true → t.demand.inhibit = (if 3 ≤ d.highCount + 1 then false else d.inhibit) ∧
        t.demand.highCount = min 3 (d.highCount + 1)) ∧
      (s.power.state = .listen → t.wantLevel ≠ 0 →
        t.power.state = .run ∧ t.power.dormantTimer = 0 ∧ t.part.reannouncePending = true ∧
        t.drive.period ≠ none ∧ t.sense.converter = .settling ∧
        (s.part.state = .active → t.line.outbox.announce ≠ none)) ∧
      (s.power.state ≠ .listen ∨ t.wantLevel = 0 →
        t.power.state = s.power.state ∧ t.part = s.part) ∧
      (t.wantLevel ≠ s.wantLevel →
        (t.releaseDue = true → t.line.outbox.release = true) ∧
        (t.claimDue = true → t.line.outbox.claim = true)) ∧
      (s.power.state ≠ .listen → t.wantLevel = s.wantLevel → t.line = s.line) ∧
      t.drive.output ≤ t.target ∧ t.line = { s.line with outbox := t.line.outbox } ∧
      t.monitor = s.monitor ∧ SameTable s t ∧ SameSetup s t

/-- PERIOD_BOUNDARY and ON_TIME_ELAPSED (R128, R131, R136, R137): where the target is above the output level
and the ramp timer has reached the ramp step, the output rises by one and the timer starts again at 0, or
stops; the duty is set from the output level; every eighth boundary converts VSENSE and the others ISENSE
with the overdraw limit latched from the own holding; GATE goes low as an on-time shorter than the period
has elapsed. How long a timer started within the period has run comes with the command (log 9). -/
def Obligations.PeriodBoundarySetsDutyAndConverts : Prop :=
  (∀ (sinceStart : Nat) (s : State), s.settledRunning = true → s.drive.period ≠ none →
    let period := periodTime s.cfg.pwmCode
    let ramps (time : Nat) (t : State) : Prop :=
      (s.drive.output < s.target → 8000 * s.cfg.rampStep ≤ time →
        t.drive.output = s.drive.output + 1 ∧
        t.drive.ramp = if s.drive.output + 1 < s.target then .running 0 else .stopped) ∧
      (s.target ≤ s.drive.output ∨ time < 8000 * s.cfg.rampStep →
        t.drive.output = s.drive.output ∧ t.drive.ramp = .running time)
    ∃ t, exec (.periodBoundary sinceStart) s = .next t ∧
      (s.drive.ramp = .started → ramps (min sinceStart period) t) ∧
      (∀ time, s.drive.ramp = .running time → ramps (time + period) t) ∧
      (s.drive.ramp = .stopped → t.drive.output = s.drive.output ∧ t.drive.ramp = .stopped) ∧
      t.drive.period = some
        { onTime := period * t.drive.output / s.cfg.maxLevel, elapsed := 0 } ∧
      (t.drive.gate = true ↔ 0 < t.drive.output) ∧
      (s.sense.schedule = 7 → t.sense =
        { s.sense with schedule := 0, converter := .converting .vsense }) ∧
      (s.sense.schedule < 7 → t.sense =
        { s.sense with
          schedule := s.sense.schedule + 1, converter := .converting (.isense false)
          limit := some (min 4095
            (s.ownHolding * s.cfg.currentScale + 4 * s.cfg.overdrawMargin)) }) ∧
      t = { s with drive := t.drive, sense := t.sense }) ∧
  (∀ (p : Period) (s : State), s.settledRunning = true → s.drive.period = some p →
    s.drive.gate = true → p.onTime < periodTime s.cfg.pwmCode →
    exec .onTimeElapsed s = .next
      { s with drive := { s.drive with
          gate := false, period := some { p with elapsed := p.onTime } } })

/-- CONVERSION_READY for ISENSE (R138 to R140): a result whose sampling began after the most recent cut
is blanked while the blanking count is above 0; any other is compared with its latched limit; the third
in a row above it trips the station. -/
def Obligations.OverdrawRunsAndTrips : Prop :=
  ∀ (code : ConverterCode) (cutSince : Bool) (limit : Nat) (s : State),
    s.settledRunning = true → s.sense.converter = .converting (.isense cutSince) →
    s.sense.limit = some limit →
    let ended : LoadDrive :=
      { s.drive with
        period := s.drive.period.map fun p => { p with elapsed := max p.elapsed 144 } }
    let idle : SenseUnit := { s.sense with converter := .idle }
    let blanked : Prop := 0 < s.sense.blanking ∧ cutSince = false
    (blanked → exec (.conversionReady code) s = .next
      { s with
        drive := ended
        sense := { idle with overdrawRun := 0, blanking := s.sense.blanking - 1 } }) ∧
    (¬ blanked → code.val ≤ limit → exec (.conversionReady code) s = .next
      { s with drive := ended, sense := { idle with overdrawRun := 0 } }) ∧
    (¬ blanked → limit < code.val → s.sense.overdrawRun < 2 →
      exec (.conversionReady code) s = .next
        { s with drive := ended, sense := { idle with overdrawRun := s.sense.overdrawRun + 1 } }) ∧
    (¬ blanked → limit < code.val → s.sense.overdrawRun = 2 →
      ∃ t, exec (.conversionReady code) s = .next t ∧
        t.sense.overdrawRun = 0 ∧ t.sense.lockout = some s.cfg.lockoutTime ∧
        t.sense.converter = .idle ∧ t.wantLevel = 0 ∧ t.drive.output = 0 ∧
        (0 < s.drive.output → t.drive.gate = false ∧ t.sense.blanking = 2) ∧
        (s.drive.output = 0 → t.sense.blanking = s.sense.blanking) ∧
        t.monitor.flags = { s.monitor.flags with overdraw := true } ∧
        t.monitor.counters.overdrawTrips = min 65535 (s.monitor.counters.overdrawTrips + 1) ∧
        (s.activeRun = true → s.wantLevel ≠ 0 → 0 < s.ownHolding →
          t.line.outbox.release = true) ∧
        (s.activeRun = false → t.line = s.line) ∧ t.part = s.part ∧ SameTable s t ∧
        SameSetup s t ∧ SamePort s t)

/-- CONVERSION_READY for VSENSE (R142, R143): the second result in a row below the threshold detects
local sag; the hold starts with a SAG request in ACTIVE with power RUN, or starts again without one. -/
def Obligations.SagRunsAndIsDetected : Prop :=
  ∀ (code : ConverterCode) (s : State), s.settledRunning = true →
    s.sense.converter = .converting .vsense →
    let ended : LoadDrive :=
      { s.drive with
        period := s.drive.period.map fun p => { p with elapsed := max p.elapsed 144 } }
    let idle : SenseUnit := { s.sense with converter := .idle }
    (16 * s.cfg.sagThreshold ≤ code.val → exec (.conversionReady code) s = .next
      { s with drive := ended, sense := { idle with sagRun := 0 } }) ∧
    (code.val < 16 * s.cfg.sagThreshold → s.sense.sagRun = 0 →
      exec (.conversionReady code) s = .next
        { s with drive := ended, sense := { idle with sagRun := 1 } }) ∧
    (code.val < 16 * s.cfg.sagThreshold → s.sense.sagRun = 1 →
      ∃ t, exec (.conversionReady code) s = .next t ∧ t.sense.sagRun = 0 ∧
        t.sense.sagHold = some s.cfg.sagHoldTime ∧ t.drive.output ≤ s.cfg.floorLevel ∧
        t.monitor.flags = { s.monitor.flags with sag := true } ∧
        t.monitor.counters.localSags = min 65535 (s.monitor.counters.localSags + 1) ∧
        (s.sense.sagHold = none → s.activeRun = true →
          t.line = { s.line with outbox := { s.line.outbox with sag := true } }) ∧
        (s.sense.sagHold ≠ none ∨ s.activeRun = false → t.line = s.line) ∧
        t.part = s.part ∧ SameTable s t ∧ SameSetup s t ∧ SamePort s t)

/-- LOCKOUT_EXPIRY and SAG_HOLD_EXPIRY (R141, R145): the limit is removed; after a lockout the want
level follows the demand level and INHIBIT at once and the Demand Unit decides; the output does not rise
at that moment. -/
def Obligations.LockoutAndSagHoldEnd : Prop :=
  ∀ s : State, s.settledRunning = true → s.power.state = .run →
    (s.sense.lockout ≠ none →
      ∃ t, exec .lockoutExpiry s = .next t ∧ t.sense.lockout = none ∧
        t.wantLevel =
          (if s.demand.inhibit = true then 0 else min s.demand.level.val s.cfg.maxLevel) ∧
        (t.wantLevel ≠ s.wantLevel → t.claimDue = true → t.line.outbox.claim = true) ∧
        t.drive.output ≤ s.drive.output ∧ t.sense.sagHold = s.sense.sagHold ∧
        t.part = s.part ∧ t.monitor = s.monitor ∧ SameTable s t ∧ SameSetup s t) ∧
    (s.sense.sagHold ≠ none →
      ∃ t, exec .sagHoldExpiry s = .next t ∧ t.sense.sagHold = none ∧
        t.drive.output ≤ s.drive.output ∧ t.sense.lockout = s.sense.lockout ∧
        t.line = s.line ∧ t.part = s.part ∧ t.monitor = s.monitor ∧ SameTable s t ∧
        SameSetup s t)

/-- The output target is the lowest of the limits that apply (R124), and the Load Drive follows it: a cut
when it falls below the output level, a ramp while it stands above (R127 to R129, R139). -/
def Obligations.TargetIsTheLowestLimitAndIsFollowed : Prop :=
  ∀ s : State,
    let limits : List Nat :=
      [s.allowedLevel, s.wantLevel] ++
        (if s.part.state = .mute ∨ s.part.state.isGather = true then
          [if s.part.horizon = .expired then 0 else s.cfg.floorLevel] else []) ++
        (if s.sense.sagHold ≠ none then [s.cfg.floorLevel] else []) ++
        (if s.sense.lockout ≠ none then [0] else []) ++
        (if s.power.state ≠ .run ∨ s.part.state = .start ∨ s.part.state = .sleep ∨
            s.part.state.isHalted = true then [0] else [])
    (s.target ∈ limits ∧ ∀ l ∈ limits, s.target ≤ l) ∧
    (s.target < s.drive.output →
      s.follow.drive =
        { s.drive with output := s.target, ramp := .stopped, gate := false } ∧
      s.follow.sense.blanking = 2 ∧
      (∀ cutSince, s.sense.converter = .converting (.isense cutSince) →
        s.follow.sense.converter = .converting (.isense true))) ∧
    (s.drive.output < s.target →
      s.follow.drive.output = s.drive.output ∧ s.follow.drive.gate = s.drive.gate ∧
      (s.drive.ramp = .stopped → s.follow.drive.ramp = .started) ∧
      (s.drive.ramp ≠ .stopped → s.follow.drive.ramp = s.drive.ramp) ∧
      s.follow.sense = s.sense) ∧
    (s.drive.output = s.target →
      s.follow.drive = { s.drive with ramp := .stopped } ∧ s.follow.sense = s.sense)

/-- The active limit reasons (R126, R174), bit 7 first. -/
def Obligations.ReasonsShowTheLimitsAtTheTarget : Prop :=
  ∀ s : State, ∃ holding want inhibit horizon sag lockout state ramp : Bool,
    s.reasons = [holding, want, inhibit, horizon, sag, lockout, state, ramp] ∧
    (holding = true ↔ s.allowedLevel = s.target) ∧
    (want = true ↔ s.wantLevel = s.target ∧ inhibit = false ∧ lockout = false) ∧
    (inhibit = true ↔ s.demand.inhibit = true) ∧
    (horizon = true ↔ (s.part.state = .mute ∨ s.part.state.isGather = true) ∧
      s.target = if s.part.horizon = .expired then 0 else s.cfg.floorLevel) ∧
    (sag = true ↔ s.sense.sagHold ≠ none ∧ s.target = s.cfg.floorLevel) ∧
    (lockout = true ↔ s.sense.lockout ≠ none) ∧
    (state = true ↔ s.power.state ≠ .run ∨ s.part.state = .start ∨ s.part.state = .sleep ∨
      s.part.state.isHalted = true) ∧
    (ramp = true ↔ s.drive.output < s.target)

/-! ### The monitor port -/

/-- NCS_FALL, NCS_RISE and SCK_EDGE (R155, R165, R171): a transaction begins and ends with NCS; in DORMANT
and while a reset is in force none begins, and without one an edge does nothing; a rising edge takes
a MOSI bit until a command is taken, and the edge that completes one takes it just as its row of the table
does (log 28); a falling edge shifts the next reply bit to MISO, which is high without one. -/
def Obligations.TransactionShiftsBits : Prop :=
  (∀ s : State, s.monitor.ncsLow = false → s.rst.inForce = false → s.power.state ≠ .dormant →
    exec .ncsFall s = .next
      { s with monitor := { s.monitor with
          ncsLow := true
          transaction := some { received := [], taken := none, reply := [] } } }) ∧
  (∀ s : State, s.monitor.ncsLow = false → s.rst.inForce = true ∨ s.power.state = .dormant →
    exec .ncsFall s = .next
      { s with monitor := { s.monitor with ncsLow := true, transaction := none } }) ∧
  (∀ s : State, s.monitor.ncsLow = true → exec .ncsFall s = .next s) ∧
  (∀ (rising : Bool) (mosi : Bit) (s : State),
    s.monitor.transaction = none ∨ s.rst.inForce = true ∨ s.power.state = .dormant →
    exec (.sckEdge rising mosi) s = .next s) ∧
  (∀ s : State, exec .ncsRise s = .next
    { s with monitor := { s.monitor with
        ncsLow := false, transaction := none, snapshot := [], miso := true } }) ∧
  (∀ (x : Transaction) (mosi : Bit) (s : State), s.monitor.transaction = some x →
    s.rst.inForce = false → s.power.state ≠ .dormant →
    exec (.sckEdge false mosi) s = .next
      { s with monitor := { s.monitor with
          miso := x.reply.headD true, transaction := some { x with reply := x.reply.tail } } } ∧
    (x.taken ≠ none → exec (.sckEdge true mosi) s = .next s) ∧
    (x.taken = none → x.received.length < 7 →
      exec (.sckEdge true mosi) s = .next
        { s with monitor := { s.monitor with
            transaction := some { x with received := x.received ++ [mosi] } } }) ∧
    (x.taken = none → x.received ++ [mosi] = byteBits 0x11 →
      exec (.sckEdge true mosi) s = exec .status s) ∧
    (x.taken = none → x.received ++ [mosi] = byteBits 0x12 →
      exec (.sckEdge true mosi) s = .next
        { s with monitor := { s.monitor with
            transaction := some { x with received := x.received ++ [mosi] } } }) ∧
    (x.taken = none → byteBits 0x12 <+: x.received → x.received.length ≤ 14 →
      exec (.sckEdge true mosi) s = .next
        { s with monitor := { s.monitor with
            transaction := some { x with received := x.received ++ [mosi] } } }) ∧
    (∀ a : Address, x.taken = none →
      x.received ++ [mosi] = byteBits 0x12 ++ byteBits (addressByte a) →
      exec (.sckEdge true mosi) s = exec (.entry a) s) ∧
    (x.taken = none → x.received ++ [mosi] = byteBits 0x13 →
      exec (.sckEdge true mosi) s = exec .counters s) ∧
    (x.taken = none → x.received ++ [mosi] = byteBits 0x14 →
      exec (.sckEdge true mosi) s = exec .events s) ∧
    (x.taken = none → x.received ++ [mosi] = byteBits 0x1C →
      exec (.sckEdge true mosi) s = exec .clear s) ∧
    (∀ (b : Byte) (a : Option Byte), x.taken = none → unknownBytes b a = true →
      x.received ++ [mosi] = unknownBits b a →
      exec (.sckEdge true mosi) s = exec (.unknownCommand b a) s))

/-- STATUS, ENTRY and COUNTERS (R166, R167): the whole reply image is captured into the snapshot and
will be shifted out; no flag and no counter changes, and the rest of the station stands. That the command
stands for the edges still to come of its bits is the model's choice (log 28: R165 takes a command at its
last rising edge). -/
def Obligations.SnapshotsAreCapturedWhole : Prop :=
  ∀ (x : Transaction) (s : State), s.monitor.transaction = some x → x.taken = none →
    s.rst.inForce = false → s.power.state ≠ .dormant →
    let captured (bits : List Bit) (c : MonitorCommand) (image : List Byte) : MonitorPort :=
      { s.monitor with
        snapshot := image
        transaction := some
          { received := bits, taken := some c, reply := image.flatMap byteBits } }
    (x.received <+: byteBits 0x11 → x.received.length < 8 →
      exec .status s = .next
        { s with monitor := captured (byteBits 0x11) .status s.statusImage }) ∧
    (∀ a : Address, x.received <+: byteBits 0x12 ++ byteBits (addressByte a) →
      x.received.length < 16 →
      exec (.entry a) s = .next
        { s with monitor :=
          captured (byteBits 0x12 ++ byteBits (addressByte a)) (.entry a) (s.entryImage a) }) ∧
    (x.received <+: byteBits 0x13 → x.received.length < 8 →
      exec .counters s = .next
        { s with monitor := captured (byteBits 0x13) .counters s.monitor.counters.image })

/-- EVENTS, CLEAR and UNKNOWN_COMMAND (R166, R168 to R170): EVENTS replies with the eight flags and
clears them in the same moment, so that NATTN is released; CLEAR sets the eight counters to 0 and leaves
the flags; an unknown command captures, clears and zeroes nothing. That the command stands for the edges
still to come of its bits is the model's choice (log 28: R165 takes a command at its last rising edge). -/
def Obligations.EventsAndClearActWhenTaken : Prop :=
  ∀ (x : Transaction) (s : State), s.monitor.transaction = some x → x.taken = none →
    s.rst.inForce = false → s.power.state ≠ .dormant →
    let f := s.monitor.flags
    let taken (bits : List Bit) (c : MonitorCommand) (image : List Byte) : MonitorPort :=
      { s.monitor with
        snapshot := image
        transaction := some
          { received := bits, taken := some c, reply := image.flatMap byteBits } }
    (x.received <+: byteBits 0x14 → x.received.length < 8 →
      ∃ t, exec .events s = .next t ∧ t = { s with monitor := t.monitor } ∧
        t.monitor.flags = EventFlags.clear ∧ t.attn = false ∧
        t.monitor.counters = s.monitor.counters ∧ t.monitor.miso = s.monitor.miso ∧
        ∃ y, t.monitor.transaction = some y ∧ y.taken = some .events ∧
          y.reply = [f.shed, f.repaid, f.evicted, f.overdraw, f.sag, f.mute, f.gather, f.halt]) ∧
    (x.received <+: byteBits 0x1C → x.received.length < 8 →
      exec .clear s = .next
        { s with monitor :=
          { taken (byteBits 0x1C) .clear [] with counters := Counters.zero } }) ∧
    (∀ (b : Byte) (a : Option Byte), unknownBytes b a = true →
      x.received <+: unknownBits b a → x.received.length < (unknownBits b a).length →
      exec (.unknownCommand b a) s = .next
        { s with monitor := taken (unknownBits b a) .unknown [] })

/-- The monitor images (R170, R174): every field of the status image, of the entry image of an address and of
the counters image can be read back from its bytes, and the last byte of the first two is the CRC-8 of the
others. Free shows 0 while no budget is settled. -/
def Obligations.StatusImageShowsTheStation : Prop :=
  ∀ s : State, CountLaw s → TableLaw s → OutputLaw s →
    (let byte (i : Nat) : Nat := (s.statusImage.getD i 0).toNat
     let o := s.line.outbox
     let f := s.monitor.flags
     s.statusImage.length = 16 ∧ s.statusImage.getD 15 0 = crc8 (s.statusImage.take 15) ∧
     byte 0 / 32 = s.part.state.code ∧ byte 0 / 16 % 2 = s.part.state.phaseCode ∧
     byte 0 / 4 % 4 = s.power.state.code ∧ (byte 0 / 2 % 2 = 1 ↔ s.power.clockReady = true) ∧
     byte 1 / 64 = s.loader.status.code ∧ byte 1 / 16 % 4 = s.part.state.haltCode ∧
     byte 1 / 4 % 4 = causeCode s.rst.cause ∧ byte 1 % 4 = s.loader.straps.cls.val ∧
     byte 2 = s.loader.straps.address.val ∧ byte 3 = s.ownHolding ∧
     byte 4 = (if s.ownEntry.presence = .present then s.ownEntry.want else 0) ∧
     byte 5 / 16 = s.demand.level.val ∧ byte 5 % 16 = s.drive.output ∧
     (∀ i (h : i < s.reasons.length), (byte 6).testBit (7 - i) = s.reasons[i]) ∧
     byte 7 = (s.lineCount.getD 0).toNat ∧ (byte 8 / 128 = 1 ↔ s.lineCount ≠ none) ∧
     byte 8 % 128 = s.line.faultCount ∧
     byte 9 = (if s.config = none then 0 else s.cfg.budget - s.table.held) ∧
     byte 10 / 16 = s.ownShedDepth ∧
     byte 10 % 16 = (if s.ownEntry.presence = .present then s.ownEntry.debts.length else 0) ∧
     byte 11 / 64 = s.demand.patience ∧ byte 11 % 64 = s.table.presentCount ∧
     byte 12 < 64 ∧ ((byte 12).testBit 5 = true ↔ o.announce = some .rejoin) ∧
     (byte 12).testBit 4 = o.sag ∧ (byte 12).testBit 3 = o.evict ∧
     (byte 12).testBit 2 = o.release ∧ (byte 12).testBit 1 = o.claim ∧
     ((byte 12).testBit 0 = true ↔ o.announce ≠ none) ∧
     (List.range 8).map (fun i => (byte 13).testBit (7 - i)) =
       [f.shed, f.repaid, f.evicted, f.overdraw, f.sag, f.mute, f.gather, f.halt] ∧
     byte 14 / 16 = s.wantLevel ∧ byte 14 % 16 = s.allowedLevel) ∧
    (∀ a : Address,
      let byte (i : Nat) : Nat := ((s.entryImage a).getD i 0).toNat
      let e := s.table.at a
      (s.entryImage a).length = 16 ∧
      (s.entryImage a).getD 15 0 = crc8 ((s.entryImage a).take 15) ∧
      byte 0 / 64 = e.presence.code ∧ byte 0 % 64 = a.val ∧
      byte 1 / 16 = e.debts.length ∧ byte 1 % 16 = e.cls.val ∧
      byte 2 = e.floor ∧ byte 3 = e.want ∧ byte 4 = e.holding ∧
      (∀ i, i < 4 →
        (∀ d, e.debts[i]? = some d →
          byte (5 + 2 * i) = d.creditor.val ∧ byte (6 + 2 * i) = d.units) ∧
        (e.debts[i]? = none → byte (5 + 2 * i) = 0 ∧ byte (6 + 2 * i) = 0)) ∧
      256 * byte 13 + byte 14 = e.age) ∧
    (let image := s.monitor.counters.image
     let c := s.monitor.counters
     image.length = 16 ∧
     (List.range 8).map (fun i =>
         256 * (image.getD (2 * i) 0).toNat + (image.getD (2 * i + 1) 0).toNat) =
       [c.framesConfirmed, c.framesVoid, c.ownConfirmed, c.dissentsDriven, c.timesShed,
         c.overdrawTrips, c.localSags, c.evictEntries])

end
end

