-- ==== Sys2Proof/Laws/State.lean ====
section
/-! SUPPORT. What each update of the station writes, field by field: every lemma is true by `rfl`, so
that no proof unfolds a record update. -/

namespace Sys2Proof.Machine

/-! ### raise -/

@[simp] theorem State.raise_rst (s : State) (f : EventFlag) : (s.raise f).rst = s.rst := rfl
@[simp] theorem State.raise_loader (s : State) (f : EventFlag) :
    (s.raise f).loader = s.loader := rfl
@[simp] theorem State.raise_config (s : State) (f : EventFlag) :
    (s.raise f).config = s.config := rfl
@[simp] theorem State.raise_table (s : State) (f : EventFlag) : (s.raise f).table = s.table := rfl
@[simp] theorem State.raise_lineCount (s : State) (f : EventFlag) :
    (s.raise f).lineCount = s.lineCount := rfl
@[simp] theorem State.raise_line (s : State) (f : EventFlag) : (s.raise f).line = s.line := rfl
@[simp] theorem State.raise_part (s : State) (f : EventFlag) : (s.raise f).part = s.part := rfl
@[simp] theorem State.raise_demand (s : State) (f : EventFlag) :
    (s.raise f).demand = s.demand := rfl
@[simp] theorem State.raise_drive (s : State) (f : EventFlag) : (s.raise f).drive = s.drive := rfl
@[simp] theorem State.raise_sense (s : State) (f : EventFlag) : (s.raise f).sense = s.sense := rfl
@[simp] theorem State.raise_power (s : State) (f : EventFlag) : (s.raise f).power = s.power := rfl
@[simp] theorem State.raise_monitor (s : State) (f : EventFlag) :
    (s.raise f).monitor = { s.monitor with flags := s.monitor.flags.raise f } := rfl
@[simp] theorem State.raise_pending (s : State) (f : EventFlag) :
    (s.raise f).pending = s.pending := rfl
@[simp] theorem State.raise_cfg (s : State) (f : EventFlag) : (s.raise f).cfg = s.cfg := rfl
@[simp] theorem State.raise_own (s : State) (f : EventFlag) : (s.raise f).own = s.own := rfl

/-! ### count -/

@[simp] theorem State.count_rst (s : State) (c : CounterName) (n : Nat) :
    (s.count c n).rst = s.rst := rfl
@[simp] theorem State.count_loader (s : State) (c : CounterName) (n : Nat) :
    (s.count c n).loader = s.loader := rfl
@[simp] theorem State.count_config (s : State) (c : CounterName) (n : Nat) :
    (s.count c n).config = s.config := rfl
@[simp] theorem State.count_table (s : State) (c : CounterName) (n : Nat) :
    (s.count c n).table = s.table := rfl
@[simp] theorem State.count_lineCount (s : State) (c : CounterName) (n : Nat) :
    (s.count c n).lineCount = s.lineCount := rfl
@[simp] theorem State.count_line (s : State) (c : CounterName) (n : Nat) :
    (s.count c n).line = s.line := rfl
@[simp] theorem State.count_part (s : State) (c : CounterName) (n : Nat) :
    (s.count c n).part = s.part := rfl
@[simp] theorem State.count_demand (s : State) (c : CounterName) (n : Nat) :
    (s.count c n).demand = s.demand := rfl
@[simp] theorem State.count_drive (s : State) (c : CounterName) (n : Nat) :
    (s.count c n).drive = s.drive := rfl
@[simp] theorem State.count_sense (s : State) (c : CounterName) (n : Nat) :
    (s.count c n).sense = s.sense := rfl
@[simp] theorem State.count_power (s : State) (c : CounterName) (n : Nat) :
    (s.count c n).power = s.power := rfl
@[simp] theorem State.count_monitor (s : State) (c : CounterName) (n : Nat) :
    (s.count c n).monitor = { s.monitor with counters := s.monitor.counters.rise n c } := rfl
@[simp] theorem State.count_pending (s : State) (c : CounterName) (n : Nat) :
    (s.count c n).pending = s.pending := rfl
@[simp] theorem State.count_cfg (s : State) (c : CounterName) (n : Nat) : (s.count c n).cfg = s.cfg := rfl
@[simp] theorem State.count_own (s : State) (c : CounterName) (n : Nat) : (s.count c n).own = s.own := rfl

/-! ### cutTo -/

@[simp] theorem State.cutTo_rst (s : State) (level : Nat) : (s.cutTo level).rst = s.rst := rfl
@[simp] theorem State.cutTo_loader (s : State) (level : Nat) :
    (s.cutTo level).loader = s.loader := rfl
@[simp] theorem State.cutTo_config (s : State) (level : Nat) :
    (s.cutTo level).config = s.config := rfl
@[simp] theorem State.cutTo_table (s : State) (level : Nat) : (s.cutTo level).table = s.table := rfl
@[simp] theorem State.cutTo_lineCount (s : State) (level : Nat) :
    (s.cutTo level).lineCount = s.lineCount := rfl
@[simp] theorem State.cutTo_line (s : State) (level : Nat) : (s.cutTo level).line = s.line := rfl
@[simp] theorem State.cutTo_part (s : State) (level : Nat) : (s.cutTo level).part = s.part := rfl
@[simp] theorem State.cutTo_demand (s : State) (level : Nat) :
    (s.cutTo level).demand = s.demand := rfl
@[simp] theorem State.cutTo_drive (s : State) (level : Nat) :
    (s.cutTo level).drive = { s.drive with output := level, ramp := .stopped, gate := false } := rfl
@[simp] theorem State.cutTo_sense (s : State) (level : Nat) :
    (s.cutTo level).sense = { s.sense with blanking := 2, converter := s.sense.converter.noteCut } := rfl
@[simp] theorem State.cutTo_power (s : State) (level : Nat) : (s.cutTo level).power = s.power := rfl
@[simp] theorem State.cutTo_monitor (s : State) (level : Nat) :
    (s.cutTo level).monitor = s.monitor := rfl
@[simp] theorem State.cutTo_pending (s : State) (level : Nat) :
    (s.cutTo level).pending = s.pending := rfl
@[simp] theorem State.cutTo_cfg (s : State) (level : Nat) : (s.cutTo level).cfg = s.cfg := rfl
@[simp] theorem State.cutTo_own (s : State) (level : Nat) : (s.cutTo level).own = s.own := rfl

/-! ### emptyOutbox -/

@[simp] theorem State.emptyOutbox_rst (s : State) : (s.emptyOutbox).rst = s.rst := rfl
@[simp] theorem State.emptyOutbox_loader (s : State) : (s.emptyOutbox).loader = s.loader := rfl
@[simp] theorem State.emptyOutbox_config (s : State) : (s.emptyOutbox).config = s.config := rfl
@[simp] theorem State.emptyOutbox_table (s : State) : (s.emptyOutbox).table = s.table := rfl
@[simp] theorem State.emptyOutbox_lineCount (s : State) :
    (s.emptyOutbox).lineCount = s.lineCount := rfl
@[simp] theorem State.emptyOutbox_line (s : State) :
    (s.emptyOutbox).line = { s.line with outbox := Outbox.empty } := rfl
@[simp] theorem State.emptyOutbox_part (s : State) : (s.emptyOutbox).part = s.part := rfl
@[simp] theorem State.emptyOutbox_demand (s : State) : (s.emptyOutbox).demand = s.demand := rfl
@[simp] theorem State.emptyOutbox_drive (s : State) : (s.emptyOutbox).drive = s.drive := rfl
@[simp] theorem State.emptyOutbox_sense (s : State) : (s.emptyOutbox).sense = s.sense := rfl
@[simp] theorem State.emptyOutbox_power (s : State) : (s.emptyOutbox).power = s.power := rfl
@[simp] theorem State.emptyOutbox_monitor (s : State) : (s.emptyOutbox).monitor = s.monitor := rfl
@[simp] theorem State.emptyOutbox_pending (s : State) : (s.emptyOutbox).pending = s.pending := rfl
@[simp] theorem State.emptyOutbox_cfg (s : State) : (s.emptyOutbox).cfg = s.cfg := rfl
@[simp] theorem State.emptyOutbox_own (s : State) : (s.emptyOutbox).own = s.own := rfl

/-! ### dropPatience -/

@[simp] theorem State.dropPatience_rst (s : State) : (s.dropPatience).rst = s.rst := rfl
@[simp] theorem State.dropPatience_loader (s : State) : (s.dropPatience).loader = s.loader := rfl
@[simp] theorem State.dropPatience_config (s : State) : (s.dropPatience).config = s.config := rfl
@[simp] theorem State.dropPatience_table (s : State) : (s.dropPatience).table = s.table := rfl
@[simp] theorem State.dropPatience_lineCount (s : State) :
    (s.dropPatience).lineCount = s.lineCount := rfl
@[simp] theorem State.dropPatience_line (s : State) : (s.dropPatience).line = s.line := rfl
@[simp] theorem State.dropPatience_part (s : State) : (s.dropPatience).part = s.part := rfl
@[simp] theorem State.dropPatience_demand (s : State) :
    (s.dropPatience).demand = { s.demand with patience := 0 } := rfl
@[simp] theorem State.dropPatience_drive (s : State) : (s.dropPatience).drive = s.drive := rfl
@[simp] theorem State.dropPatience_sense (s : State) : (s.dropPatience).sense = s.sense := rfl
@[simp] theorem State.dropPatience_power (s : State) : (s.dropPatience).power = s.power := rfl
@[simp] theorem State.dropPatience_monitor (s : State) : (s.dropPatience).monitor = s.monitor := rfl
@[simp] theorem State.dropPatience_pending (s : State) : (s.dropPatience).pending = s.pending := rfl
@[simp] theorem State.dropPatience_cfg (s : State) : (s.dropPatience).cfg = s.cfg := rfl
@[simp] theorem State.dropPatience_own (s : State) : (s.dropPatience).own = s.own := rfl

/-! ### endFrame -/

@[simp] theorem State.endFrame_rst (s : State) (p : LinePosition) :
    (s.endFrame p).rst = s.rst := rfl
@[simp] theorem State.endFrame_loader (s : State) (p : LinePosition) :
    (s.endFrame p).loader = s.loader := rfl
@[simp] theorem State.endFrame_config (s : State) (p : LinePosition) :
    (s.endFrame p).config = s.config := rfl
@[simp] theorem State.endFrame_table (s : State) (p : LinePosition) :
    (s.endFrame p).table = s.table := rfl
@[simp] theorem State.endFrame_lineCount (s : State) (p : LinePosition) :
    (s.endFrame p).lineCount = s.lineCount := rfl
@[simp] theorem State.endFrame_line (s : State) (p : LinePosition) :
    (s.endFrame p).line = s.line.endFrame p := rfl
@[simp] theorem State.endFrame_part (s : State) (p : LinePosition) :
    (s.endFrame p).part = s.part := rfl
@[simp] theorem State.endFrame_demand (s : State) (p : LinePosition) :
    (s.endFrame p).demand = s.demand := rfl
@[simp] theorem State.endFrame_drive (s : State) (p : LinePosition) :
    (s.endFrame p).drive = s.drive := rfl
@[simp] theorem State.endFrame_sense (s : State) (p : LinePosition) :
    (s.endFrame p).sense = s.sense := rfl
@[simp] theorem State.endFrame_power (s : State) (p : LinePosition) :
    (s.endFrame p).power = s.power := rfl
@[simp] theorem State.endFrame_monitor (s : State) (p : LinePosition) :
    (s.endFrame p).monitor = s.monitor := rfl
@[simp] theorem State.endFrame_pending (s : State) (p : LinePosition) :
    (s.endFrame p).pending = s.pending := rfl
@[simp] theorem State.endFrame_cfg (s : State) (p : LinePosition) : (s.endFrame p).cfg = s.cfg := rfl
@[simp] theorem State.endFrame_own (s : State) (p : LinePosition) : (s.endFrame p).own = s.own := rfl

/-! ### becomeReceiver -/

@[simp] theorem State.becomeReceiver_rst (s : State) : (s.becomeReceiver).rst = s.rst := rfl
@[simp] theorem State.becomeReceiver_loader (s : State) :
    (s.becomeReceiver).loader = s.loader := rfl
@[simp] theorem State.becomeReceiver_config (s : State) :
    (s.becomeReceiver).config = s.config := rfl
@[simp] theorem State.becomeReceiver_table (s : State) : (s.becomeReceiver).table = s.table := rfl
@[simp] theorem State.becomeReceiver_lineCount (s : State) :
    (s.becomeReceiver).lineCount = s.lineCount := rfl
@[simp] theorem State.becomeReceiver_line (s : State) :
    (s.becomeReceiver).line = { s.line.endFrame .frame with role := .receiver, rx := Rx.afterSof } := rfl
@[simp] theorem State.becomeReceiver_part (s : State) : (s.becomeReceiver).part = s.part := rfl
@[simp] theorem State.becomeReceiver_demand (s : State) :
    (s.becomeReceiver).demand = s.demand := rfl
@[simp] theorem State.becomeReceiver_drive (s : State) : (s.becomeReceiver).drive = s.drive := rfl
@[simp] theorem State.becomeReceiver_sense (s : State) : (s.becomeReceiver).sense = s.sense := rfl
@[simp] theorem State.becomeReceiver_power (s : State) : (s.becomeReceiver).power = s.power := rfl
@[simp] theorem State.becomeReceiver_monitor (s : State) :
    (s.becomeReceiver).monitor = s.monitor := rfl
@[simp] theorem State.becomeReceiver_pending (s : State) :
    (s.becomeReceiver).pending = s.pending := rfl
@[simp] theorem State.becomeReceiver_cfg (s : State) : (s.becomeReceiver).cfg = s.cfg := rfl
@[simp] theorem State.becomeReceiver_own (s : State) : (s.becomeReceiver).own = s.own := rfl

/-! ### lowerFault -/

@[simp] theorem State.lowerFault_rst (s : State) : (s.lowerFault).rst = s.rst := rfl
@[simp] theorem State.lowerFault_loader (s : State) : (s.lowerFault).loader = s.loader := rfl
@[simp] theorem State.lowerFault_config (s : State) : (s.lowerFault).config = s.config := rfl
@[simp] theorem State.lowerFault_table (s : State) : (s.lowerFault).table = s.table := rfl
@[simp] theorem State.lowerFault_lineCount (s : State) :
    (s.lowerFault).lineCount = s.lineCount := rfl
@[simp] theorem State.lowerFault_line (s : State) :
    (s.lowerFault).line = { s.line with faultCount := s.line.faultCount - 1 } := rfl
@[simp] theorem State.lowerFault_part (s : State) : (s.lowerFault).part = s.part := rfl
@[simp] theorem State.lowerFault_demand (s : State) : (s.lowerFault).demand = s.demand := rfl
@[simp] theorem State.lowerFault_drive (s : State) : (s.lowerFault).drive = s.drive := rfl
@[simp] theorem State.lowerFault_sense (s : State) : (s.lowerFault).sense = s.sense := rfl
@[simp] theorem State.lowerFault_power (s : State) : (s.lowerFault).power = s.power := rfl
@[simp] theorem State.lowerFault_monitor (s : State) : (s.lowerFault).monitor = s.monitor := rfl
@[simp] theorem State.lowerFault_pending (s : State) : (s.lowerFault).pending = s.pending := rfl
@[simp] theorem State.lowerFault_cfg (s : State) : (s.lowerFault).cfg = s.cfg := rfl
@[simp] theorem State.lowerFault_own (s : State) : (s.lowerFault).own = s.own := rfl

/-! ### raiseOutput -/

@[simp] theorem State.raiseOutput_rst (s : State) : (s.raiseOutput).rst = s.rst := rfl
@[simp] theorem State.raiseOutput_loader (s : State) : (s.raiseOutput).loader = s.loader := rfl
@[simp] theorem State.raiseOutput_config (s : State) : (s.raiseOutput).config = s.config := rfl
@[simp] theorem State.raiseOutput_table (s : State) : (s.raiseOutput).table = s.table := rfl
@[simp] theorem State.raiseOutput_lineCount (s : State) :
    (s.raiseOutput).lineCount = s.lineCount := rfl
@[simp] theorem State.raiseOutput_line (s : State) : (s.raiseOutput).line = s.line := rfl
@[simp] theorem State.raiseOutput_part (s : State) : (s.raiseOutput).part = s.part := rfl
@[simp] theorem State.raiseOutput_demand (s : State) : (s.raiseOutput).demand = s.demand := rfl
@[simp] theorem State.raiseOutput_drive (s : State) :
    (s.raiseOutput).drive = { s.drive with
        output := s.drive.output + 1
        ramp := if s.drive.output + 1 < s.target then .running 0 else .stopped } := rfl
@[simp] theorem State.raiseOutput_sense (s : State) : (s.raiseOutput).sense = s.sense := rfl
@[simp] theorem State.raiseOutput_power (s : State) : (s.raiseOutput).power = s.power := rfl
@[simp] theorem State.raiseOutput_monitor (s : State) : (s.raiseOutput).monitor = s.monitor := rfl
@[simp] theorem State.raiseOutput_pending (s : State) : (s.raiseOutput).pending = s.pending := rfl
@[simp] theorem State.raiseOutput_cfg (s : State) : (s.raiseOutput).cfg = s.cfg := rfl
@[simp] theorem State.raiseOutput_own (s : State) : (s.raiseOutput).own = s.own := rfl

/-! ### beginPeriod -/

@[simp] theorem State.beginPeriod_rst (s : State) : (s.beginPeriod).rst = s.rst := rfl
@[simp] theorem State.beginPeriod_loader (s : State) : (s.beginPeriod).loader = s.loader := rfl
@[simp] theorem State.beginPeriod_config (s : State) : (s.beginPeriod).config = s.config := rfl
@[simp] theorem State.beginPeriod_table (s : State) : (s.beginPeriod).table = s.table := rfl
@[simp] theorem State.beginPeriod_lineCount (s : State) :
    (s.beginPeriod).lineCount = s.lineCount := rfl
@[simp] theorem State.beginPeriod_line (s : State) : (s.beginPeriod).line = s.line := rfl
@[simp] theorem State.beginPeriod_part (s : State) : (s.beginPeriod).part = s.part := rfl
@[simp] theorem State.beginPeriod_demand (s : State) : (s.beginPeriod).demand = s.demand := rfl
@[simp] theorem State.beginPeriod_drive (s : State) :
    (s.beginPeriod).drive = { s.drive with
        period := some { onTime := s.onTimeAt s.drive.output, elapsed := 0 }
        gate := decide (0 < s.drive.output) } := rfl
@[simp] theorem State.beginPeriod_sense (s : State) : (s.beginPeriod).sense = s.sense := rfl
@[simp] theorem State.beginPeriod_power (s : State) : (s.beginPeriod).power = s.power := rfl
@[simp] theorem State.beginPeriod_monitor (s : State) : (s.beginPeriod).monitor = s.monitor := rfl
@[simp] theorem State.beginPeriod_pending (s : State) : (s.beginPeriod).pending = s.pending := rfl
@[simp] theorem State.beginPeriod_cfg (s : State) : (s.beginPeriod).cfg = s.cfg := rfl
@[simp] theorem State.beginPeriod_own (s : State) : (s.beginPeriod).own = s.own := rfl

/-! ### stopPeriods -/

@[simp] theorem State.stopPeriods_rst (s : State) : (s.stopPeriods).rst = s.rst := rfl
@[simp] theorem State.stopPeriods_loader (s : State) : (s.stopPeriods).loader = s.loader := rfl
@[simp] theorem State.stopPeriods_config (s : State) : (s.stopPeriods).config = s.config := rfl
@[simp] theorem State.stopPeriods_table (s : State) : (s.stopPeriods).table = s.table := rfl
@[simp] theorem State.stopPeriods_lineCount (s : State) :
    (s.stopPeriods).lineCount = s.lineCount := rfl
@[simp] theorem State.stopPeriods_line (s : State) : (s.stopPeriods).line = s.line := rfl
@[simp] theorem State.stopPeriods_part (s : State) : (s.stopPeriods).part = s.part := rfl
@[simp] theorem State.stopPeriods_demand (s : State) : (s.stopPeriods).demand = s.demand := rfl
@[simp] theorem State.stopPeriods_drive (s : State) :
    (s.stopPeriods).drive = { s.drive with period := none, gate := false } := rfl
@[simp] theorem State.stopPeriods_sense (s : State) :
    (s.stopPeriods).sense = { s.sense with
        converter := .unpowered, schedule := 0, limit := none, overdrawRun := 0, blanking := 0
        sagRun := 0 } := rfl
@[simp] theorem State.stopPeriods_power (s : State) : (s.stopPeriods).power = s.power := rfl
@[simp] theorem State.stopPeriods_monitor (s : State) : (s.stopPeriods).monitor = s.monitor := rfl
@[simp] theorem State.stopPeriods_pending (s : State) : (s.stopPeriods).pending = s.pending := rfl
@[simp] theorem State.stopPeriods_cfg (s : State) : (s.stopPeriods).cfg = s.cfg := rfl
@[simp] theorem State.stopPeriods_own (s : State) : (s.stopPeriods).own = s.own := rfl

/-! ### enterDormant -/

@[simp] theorem State.enterDormant_rst (s : State) : (s.enterDormant).rst = s.rst := rfl
@[simp] theorem State.enterDormant_loader (s : State) : (s.enterDormant).loader = s.loader := rfl
@[simp] theorem State.enterDormant_config (s : State) : (s.enterDormant).config = s.config := rfl
@[simp] theorem State.enterDormant_table (s : State) :
    (s.enterDormant).table = Table.allAbsent := rfl
@[simp] theorem State.enterDormant_lineCount (s : State) : (s.enterDormant).lineCount = none := rfl
@[simp] theorem State.enterDormant_line (s : State) :
    (s.enterDormant).line = { s.line with outbox := Outbox.empty }.endFrame .off := rfl
@[simp] theorem State.enterDormant_part (s : State) :
    (s.enterDormant).part = { s.part with
        state := .sleep, windowTimer := 0, announceTimer := 0, horizon := .expired
        reannouncePending := false, evictedInMute := false } := rfl
@[simp] theorem State.enterDormant_demand (s : State) :
    (s.enterDormant).demand = { s.demand with patience := 0 } := rfl
@[simp] theorem State.enterDormant_drive (s : State) : (s.enterDormant).drive = s.drive := rfl
@[simp] theorem State.enterDormant_sense (s : State) : (s.enterDormant).sense = s.sense := rfl
@[simp] theorem State.enterDormant_power (s : State) :
    (s.enterDormant).power = { state := .dormant, idleTimer := 0, dormantTimer := 0, clockReady := false } := rfl
@[simp] theorem State.enterDormant_monitor (s : State) :
    (s.enterDormant).monitor = { s.monitor with transaction := none, snapshot := [], miso := true } := rfl
@[simp] theorem State.enterDormant_pending (s : State) : (s.enterDormant).pending = s.pending := rfl
@[simp] theorem State.enterDormant_cfg (s : State) : (s.enterDormant).cfg = s.cfg := rfl
@[simp] theorem State.enterDormant_own (s : State) : (s.enterDormant).own = s.own := rfl

/-! ### sendFrame -/

@[simp] theorem State.sendFrame_rst (s : State) (k : FrameKind) : (s.sendFrame k).rst = s.rst := rfl
@[simp] theorem State.sendFrame_loader (s : State) (k : FrameKind) :
    (s.sendFrame k).loader = s.loader := rfl
@[simp] theorem State.sendFrame_config (s : State) (k : FrameKind) :
    (s.sendFrame k).config = s.config := rfl
@[simp] theorem State.sendFrame_table (s : State) (k : FrameKind) :
    (s.sendFrame k).table = s.table := rfl
@[simp] theorem State.sendFrame_lineCount (s : State) (k : FrameKind) :
    (s.sendFrame k).lineCount = s.lineCount := rfl
@[simp] theorem State.sendFrame_line (s : State) (k : FrameKind) :
    (s.sendFrame k).line = { s.line with
        position := .frame, role := .sender, tx := some (s.ownFrame k)
        txBits := lineBits (s.ownFrame k), rx := Rx.start, received := none, verdict := none
        drive := .ownFrame } := rfl
@[simp] theorem State.sendFrame_part (s : State) (k : FrameKind) :
    (s.sendFrame k).part = s.part := rfl
@[simp] theorem State.sendFrame_demand (s : State) (k : FrameKind) :
    (s.sendFrame k).demand = s.demand := rfl
@[simp] theorem State.sendFrame_drive (s : State) (k : FrameKind) :
    (s.sendFrame k).drive = s.drive := rfl
@[simp] theorem State.sendFrame_sense (s : State) (k : FrameKind) :
    (s.sendFrame k).sense = s.sense := rfl
@[simp] theorem State.sendFrame_power (s : State) (k : FrameKind) :
    (s.sendFrame k).power = s.power := rfl
@[simp] theorem State.sendFrame_monitor (s : State) (k : FrameKind) :
    (s.sendFrame k).monitor = s.monitor := rfl
@[simp] theorem State.sendFrame_pending (s : State) (k : FrameKind) :
    (s.sendFrame k).pending = s.pending := rfl
@[simp] theorem State.sendFrame_cfg (s : State) (k : FrameKind) : (s.sendFrame k).cfg = s.cfg := rfl
@[simp] theorem State.sendFrame_own (s : State) (k : FrameKind) : (s.sendFrame k).own = s.own := rfl

/-! ### readImage -/

@[simp] theorem State.readImage_rst (s : State) (image : List Byte) :
    (s.readImage image).rst = s.rst := rfl
@[simp] theorem State.readImage_loader (s : State) (image : List Byte) :
    (s.readImage image).loader = { s.loader with
        image := image
        wire := s.loader.wire ++ addressPhase ++ dataPhase image ++ stopCondition } := rfl
@[simp] theorem State.readImage_config (s : State) (image : List Byte) :
    (s.readImage image).config = s.config := rfl
@[simp] theorem State.readImage_table (s : State) (image : List Byte) :
    (s.readImage image).table = s.table := rfl
@[simp] theorem State.readImage_lineCount (s : State) (image : List Byte) :
    (s.readImage image).lineCount = s.lineCount := rfl
@[simp] theorem State.readImage_line (s : State) (image : List Byte) :
    (s.readImage image).line = s.line := rfl
@[simp] theorem State.readImage_part (s : State) (image : List Byte) :
    (s.readImage image).part = s.part := rfl
@[simp] theorem State.readImage_demand (s : State) (image : List Byte) :
    (s.readImage image).demand = s.demand := rfl
@[simp] theorem State.readImage_drive (s : State) (image : List Byte) :
    (s.readImage image).drive = s.drive := rfl
@[simp] theorem State.readImage_sense (s : State) (image : List Byte) :
    (s.readImage image).sense = s.sense := rfl
@[simp] theorem State.readImage_power (s : State) (image : List Byte) :
    (s.readImage image).power = s.power := rfl
@[simp] theorem State.readImage_monitor (s : State) (image : List Byte) :
    (s.readImage image).monitor = s.monitor := rfl
@[simp] theorem State.readImage_pending (s : State) (image : List Byte) :
    (s.readImage image).pending = s.pending := rfl
@[simp] theorem State.readImage_cfg (s : State) (image : List Byte) : (s.readImage image).cfg = s.cfg := rfl
@[simp] theorem State.readImage_own (s : State) (image : List Byte) : (s.readImage image).own = s.own := rfl

/-! ### ownConfirmed -/

@[simp] theorem State.ownConfirmed_rst (s : State) (f : Frame) :
    (s.ownConfirmed f).rst = s.rst := rfl
@[simp] theorem State.ownConfirmed_loader (s : State) (f : Frame) :
    (s.ownConfirmed f).loader = s.loader := rfl
@[simp] theorem State.ownConfirmed_config (s : State) (f : Frame) :
    (s.ownConfirmed f).config = s.config := rfl
@[simp] theorem State.ownConfirmed_table (s : State) (f : Frame) :
    (s.ownConfirmed f).table = s.table := rfl
@[simp] theorem State.ownConfirmed_lineCount (s : State) (f : Frame) :
    (s.ownConfirmed f).lineCount = s.lineCount := rfl
@[simp] theorem State.ownConfirmed_line (s : State) (f : Frame) :
    (s.ownConfirmed f).line = { s.line with outbox := s.line.outbox.remove f.payload.kind } := rfl
@[simp] theorem State.ownConfirmed_part (s : State) (f : Frame) :
    (s.ownConfirmed f).part = { s.part with horizon := .counting 0 } := rfl
@[simp] theorem State.ownConfirmed_demand (s : State) (f : Frame) :
    (s.ownConfirmed f).demand = s.demand := rfl
@[simp] theorem State.ownConfirmed_drive (s : State) (f : Frame) :
    (s.ownConfirmed f).drive = s.drive := rfl
@[simp] theorem State.ownConfirmed_sense (s : State) (f : Frame) :
    (s.ownConfirmed f).sense = s.sense := rfl
@[simp] theorem State.ownConfirmed_power (s : State) (f : Frame) :
    (s.ownConfirmed f).power = s.power := rfl
@[simp] theorem State.ownConfirmed_monitor (s : State) (f : Frame) :
    (s.ownConfirmed f).monitor = s.monitor := rfl
@[simp] theorem State.ownConfirmed_pending (s : State) (f : Frame) :
    (s.ownConfirmed f).pending = s.pending := rfl
@[simp] theorem State.ownConfirmed_cfg (s : State) (f : Frame) : (s.ownConfirmed f).cfg = s.cfg := rfl
@[simp] theorem State.ownConfirmed_own (s : State) (f : Frame) : (s.ownConfirmed f).own = s.own := rfl

/-! ### adopt -/

@[simp] theorem State.adopt_rst (s : State) (t : Table) (f : Frame) :
    (s.adopt t f).rst = s.rst := rfl
@[simp] theorem State.adopt_loader (s : State) (t : Table) (f : Frame) :
    (s.adopt t f).loader = s.loader := rfl
@[simp] theorem State.adopt_config (s : State) (t : Table) (f : Frame) :
    (s.adopt t f).config = s.config := rfl
@[simp] theorem State.adopt_table (s : State) (t : Table) (f : Frame) :
    (s.adopt t f).table = t.heard f.sender := rfl
@[simp] theorem State.adopt_lineCount (s : State) (t : Table) (f : Frame) :
    (s.adopt t f).lineCount = some f.lineCount := rfl
@[simp] theorem State.adopt_line (s : State) (t : Table) (f : Frame) :
    (s.adopt t f).line = s.line := rfl
@[simp] theorem State.adopt_part (s : State) (t : Table) (f : Frame) :
    (s.adopt t f).part = s.part := rfl
@[simp] theorem State.adopt_demand (s : State) (t : Table) (f : Frame) :
    (s.adopt t f).demand = s.demand := rfl
@[simp] theorem State.adopt_drive (s : State) (t : Table) (f : Frame) :
    (s.adopt t f).drive = s.drive := rfl
@[simp] theorem State.adopt_sense (s : State) (t : Table) (f : Frame) :
    (s.adopt t f).sense = s.sense := rfl
@[simp] theorem State.adopt_power (s : State) (t : Table) (f : Frame) :
    (s.adopt t f).power = s.power := rfl
@[simp] theorem State.adopt_monitor (s : State) (t : Table) (f : Frame) :
    (s.adopt t f).monitor = s.monitor := rfl
@[simp] theorem State.adopt_pending (s : State) (t : Table) (f : Frame) :
    (s.adopt t f).pending = s.pending := rfl
@[simp] theorem State.adopt_cfg (s : State) (t : Table) (f : Frame) : (s.adopt t f).cfg = s.cfg := rfl
@[simp] theorem State.adopt_own (s : State) (t : Table) (f : Frame) : (s.adopt t f).own = s.own := rfl

/-! ### rejoined -/

@[simp] theorem State.rejoined_rst (s : State) : (s.rejoined).rst = s.rst := rfl
@[simp] theorem State.rejoined_loader (s : State) : (s.rejoined).loader = s.loader := rfl
@[simp] theorem State.rejoined_config (s : State) : (s.rejoined).config = s.config := rfl
@[simp] theorem State.rejoined_table (s : State) : (s.rejoined).table = s.table := rfl
@[simp] theorem State.rejoined_lineCount (s : State) : (s.rejoined).lineCount = s.lineCount := rfl
@[simp] theorem State.rejoined_line (s : State) : (s.rejoined).line = s.line := rfl
@[simp] theorem State.rejoined_part (s : State) :
    (s.rejoined).part = { s.part with state := .active, announceTimer := 0 } := rfl
@[simp] theorem State.rejoined_demand (s : State) : (s.rejoined).demand = s.demand := rfl
@[simp] theorem State.rejoined_drive (s : State) : (s.rejoined).drive = s.drive := rfl
@[simp] theorem State.rejoined_sense (s : State) : (s.rejoined).sense = s.sense := rfl
@[simp] theorem State.rejoined_power (s : State) : (s.rejoined).power = s.power := rfl
@[simp] theorem State.rejoined_monitor (s : State) : (s.rejoined).monitor = s.monitor := rfl
@[simp] theorem State.rejoined_pending (s : State) : (s.rejoined).pending = s.pending := rfl
@[simp] theorem State.rejoined_cfg (s : State) : (s.rejoined).cfg = s.cfg := rfl
@[simp] theorem State.rejoined_own (s : State) : (s.rejoined).own = s.own := rfl

/-! ### windowAgain -/

@[simp] theorem State.windowAgain_rst (s : State) : (s.windowAgain).rst = s.rst := rfl
@[simp] theorem State.windowAgain_loader (s : State) : (s.windowAgain).loader = s.loader := rfl
@[simp] theorem State.windowAgain_config (s : State) : (s.windowAgain).config = s.config := rfl
@[simp] theorem State.windowAgain_table (s : State) : (s.windowAgain).table = s.table := rfl
@[simp] theorem State.windowAgain_lineCount (s : State) : (s.windowAgain).lineCount = none := rfl
@[simp] theorem State.windowAgain_line (s : State) :
    (s.windowAgain).line = { s.line with outbox := s.line.outbox.remove .announce } := rfl
@[simp] theorem State.windowAgain_part (s : State) :
    (s.windowAgain).part = { s.part with state := .gather .window, windowTimer := 0 } := rfl
@[simp] theorem State.windowAgain_demand (s : State) : (s.windowAgain).demand = s.demand := rfl
@[simp] theorem State.windowAgain_drive (s : State) : (s.windowAgain).drive = s.drive := rfl
@[simp] theorem State.windowAgain_sense (s : State) : (s.windowAgain).sense = s.sense := rfl
@[simp] theorem State.windowAgain_power (s : State) : (s.windowAgain).power = s.power := rfl
@[simp] theorem State.windowAgain_monitor (s : State) : (s.windowAgain).monitor = s.monitor := rfl
@[simp] theorem State.windowAgain_pending (s : State) : (s.windowAgain).pending = s.pending := rfl
@[simp] theorem State.windowAgain_cfg (s : State) : (s.windowAgain).cfg = s.cfg := rfl
@[simp] theorem State.windowAgain_own (s : State) : (s.windowAgain).own = s.own := rfl

/-! ### endConversion -/

@[simp] theorem State.endConversion_rst (s : State) : (s.endConversion).rst = s.rst := rfl
@[simp] theorem State.endConversion_loader (s : State) : (s.endConversion).loader = s.loader := rfl
@[simp] theorem State.endConversion_config (s : State) : (s.endConversion).config = s.config := rfl
@[simp] theorem State.endConversion_table (s : State) : (s.endConversion).table = s.table := rfl
@[simp] theorem State.endConversion_lineCount (s : State) :
    (s.endConversion).lineCount = s.lineCount := rfl
@[simp] theorem State.endConversion_line (s : State) : (s.endConversion).line = s.line := rfl
@[simp] theorem State.endConversion_part (s : State) : (s.endConversion).part = s.part := rfl
@[simp] theorem State.endConversion_demand (s : State) : (s.endConversion).demand = s.demand := rfl
@[simp] theorem State.endConversion_drive (s : State) :
    (s.endConversion).drive = { s.drive with
        period := s.drive.period.map fun p => { p with elapsed := max p.elapsed conversionTime } } := rfl
@[simp] theorem State.endConversion_sense (s : State) :
    (s.endConversion).sense = { s.sense with converter := .idle } := rfl
@[simp] theorem State.endConversion_power (s : State) : (s.endConversion).power = s.power := rfl
@[simp] theorem State.endConversion_monitor (s : State) :
    (s.endConversion).monitor = s.monitor := rfl
@[simp] theorem State.endConversion_pending (s : State) :
    (s.endConversion).pending = s.pending := rfl
@[simp] theorem State.endConversion_cfg (s : State) : (s.endConversion).cfg = s.cfg := rfl
@[simp] theorem State.endConversion_own (s : State) : (s.endConversion).own = s.own := rfl

/-! ### reply -/

@[simp] theorem State.reply_rst (s : State) (received : List Bit) (c : MonitorCommand) (image : List Byte) :
    (s.reply received c image).rst = s.rst := rfl
@[simp] theorem State.reply_loader (s : State) (received : List Bit) (c : MonitorCommand) (image : List Byte) :
    (s.reply received c image).loader = s.loader := rfl
@[simp] theorem State.reply_config (s : State) (received : List Bit) (c : MonitorCommand) (image : List Byte) :
    (s.reply received c image).config = s.config := rfl
@[simp] theorem State.reply_table (s : State) (received : List Bit) (c : MonitorCommand) (image : List Byte) :
    (s.reply received c image).table = s.table := rfl
@[simp] theorem State.reply_lineCount (s : State) (received : List Bit) (c : MonitorCommand) (image : List Byte) :
    (s.reply received c image).lineCount = s.lineCount := rfl
@[simp] theorem State.reply_line (s : State) (received : List Bit) (c : MonitorCommand) (image : List Byte) :
    (s.reply received c image).line = s.line := rfl
@[simp] theorem State.reply_part (s : State) (received : List Bit) (c : MonitorCommand) (image : List Byte) :
    (s.reply received c image).part = s.part := rfl
@[simp] theorem State.reply_demand (s : State) (received : List Bit) (c : MonitorCommand) (image : List Byte) :
    (s.reply received c image).demand = s.demand := rfl
@[simp] theorem State.reply_drive (s : State) (received : List Bit) (c : MonitorCommand) (image : List Byte) :
    (s.reply received c image).drive = s.drive := rfl
@[simp] theorem State.reply_sense (s : State) (received : List Bit) (c : MonitorCommand) (image : List Byte) :
    (s.reply received c image).sense = s.sense := rfl
@[simp] theorem State.reply_power (s : State) (received : List Bit) (c : MonitorCommand) (image : List Byte) :
    (s.reply received c image).power = s.power := rfl
@[simp] theorem State.reply_monitor (s : State) (received : List Bit) (c : MonitorCommand) (image : List Byte) :
    (s.reply received c image).monitor = { s.monitor with
        snapshot := image
        transaction := some
          { received := received, taken := some c, reply := image.flatMap byteBits } } := rfl
@[simp] theorem State.reply_pending (s : State) (received : List Bit) (c : MonitorCommand) (image : List Byte) :
    (s.reply received c image).pending = s.pending := rfl
@[simp] theorem State.reply_cfg (s : State) (received : List Bit) (c : MonitorCommand) (image : List Byte) : (s.reply received c image).cfg = s.cfg := rfl
@[simp] theorem State.reply_own (s : State) (received : List Bit) (c : MonitorCommand) (image : List Byte) : (s.reply received c image).own = s.own := rfl

end Sys2Proof.Machine
end

