-- ==== Sys2Proof/Laws/Ops.lean ====
section
/-! SUPPORT. What the shared operations of the station leave alone, field by field. -/

namespace Sys2Proof.Machine

/-! ### raiseIf -/

@[simp] theorem State.raiseIf_rst (s : State) (c : Bool) (f : EventFlag) : (s.raiseIf c f).rst = s.rst := by
  unfold State.raiseIf; split_ifs <;> rfl
@[simp] theorem State.raiseIf_loader (s : State) (c : Bool) (f : EventFlag) : (s.raiseIf c f).loader = s.loader := by
  unfold State.raiseIf; split_ifs <;> rfl
@[simp] theorem State.raiseIf_config (s : State) (c : Bool) (f : EventFlag) : (s.raiseIf c f).config = s.config := by
  unfold State.raiseIf; split_ifs <;> rfl
@[simp] theorem State.raiseIf_table (s : State) (c : Bool) (f : EventFlag) : (s.raiseIf c f).table = s.table := by
  unfold State.raiseIf; split_ifs <;> rfl
@[simp] theorem State.raiseIf_lineCount (s : State) (c : Bool) (f : EventFlag) : (s.raiseIf c f).lineCount = s.lineCount := by
  unfold State.raiseIf; split_ifs <;> rfl
@[simp] theorem State.raiseIf_line (s : State) (c : Bool) (f : EventFlag) : (s.raiseIf c f).line = s.line := by
  unfold State.raiseIf; split_ifs <;> rfl
@[simp] theorem State.raiseIf_part (s : State) (c : Bool) (f : EventFlag) : (s.raiseIf c f).part = s.part := by
  unfold State.raiseIf; split_ifs <;> rfl
@[simp] theorem State.raiseIf_demand (s : State) (c : Bool) (f : EventFlag) : (s.raiseIf c f).demand = s.demand := by
  unfold State.raiseIf; split_ifs <;> rfl
@[simp] theorem State.raiseIf_drive (s : State) (c : Bool) (f : EventFlag) : (s.raiseIf c f).drive = s.drive := by
  unfold State.raiseIf; split_ifs <;> rfl
@[simp] theorem State.raiseIf_sense (s : State) (c : Bool) (f : EventFlag) : (s.raiseIf c f).sense = s.sense := by
  unfold State.raiseIf; split_ifs <;> rfl
@[simp] theorem State.raiseIf_power (s : State) (c : Bool) (f : EventFlag) : (s.raiseIf c f).power = s.power := by
  unfold State.raiseIf; split_ifs <;> rfl
@[simp] theorem State.raiseIf_pending (s : State) (c : Bool) (f : EventFlag) : (s.raiseIf c f).pending = s.pending := by
  unfold State.raiseIf; split_ifs <;> rfl
@[simp] theorem State.raiseIf_cfg (s : State) (c : Bool) (f : EventFlag) : (s.raiseIf c f).cfg = s.cfg := by
  simp [State.cfg]
@[simp] theorem State.raiseIf_own (s : State) (c : Bool) (f : EventFlag) : (s.raiseIf c f).own = s.own := by
  simp [State.own]

/-! ### follow -/

@[simp] theorem State.follow_rst (s : State) : (s.follow).rst = s.rst := by
  unfold State.follow; split_ifs <;> rfl
@[simp] theorem State.follow_loader (s : State) : (s.follow).loader = s.loader := by
  unfold State.follow; split_ifs <;> rfl
@[simp] theorem State.follow_config (s : State) : (s.follow).config = s.config := by
  unfold State.follow; split_ifs <;> rfl
@[simp] theorem State.follow_table (s : State) : (s.follow).table = s.table := by
  unfold State.follow; split_ifs <;> rfl
@[simp] theorem State.follow_lineCount (s : State) : (s.follow).lineCount = s.lineCount := by
  unfold State.follow; split_ifs <;> rfl
@[simp] theorem State.follow_line (s : State) : (s.follow).line = s.line := by
  unfold State.follow; split_ifs <;> rfl
@[simp] theorem State.follow_part (s : State) : (s.follow).part = s.part := by
  unfold State.follow; split_ifs <;> rfl
@[simp] theorem State.follow_demand (s : State) : (s.follow).demand = s.demand := by
  unfold State.follow; split_ifs <;> rfl
@[simp] theorem State.follow_power (s : State) : (s.follow).power = s.power := by
  unfold State.follow; split_ifs <;> rfl
@[simp] theorem State.follow_monitor (s : State) : (s.follow).monitor = s.monitor := by
  unfold State.follow; split_ifs <;> rfl
@[simp] theorem State.follow_pending (s : State) : (s.follow).pending = s.pending := by
  unfold State.follow; split_ifs <;> rfl
@[simp] theorem State.follow_cfg (s : State) : (s.follow).cfg = s.cfg := by
  simp [State.cfg]
@[simp] theorem State.follow_own (s : State) : (s.follow).own = s.own := by
  simp [State.own]

/-! ### restPatience -/

@[simp] theorem State.restPatience_rst (s : State) : (s.restPatience).rst = s.rst := by
  unfold State.restPatience; split_ifs <;> rfl
@[simp] theorem State.restPatience_loader (s : State) : (s.restPatience).loader = s.loader := by
  unfold State.restPatience; split_ifs <;> rfl
@[simp] theorem State.restPatience_config (s : State) : (s.restPatience).config = s.config := by
  unfold State.restPatience; split_ifs <;> rfl
@[simp] theorem State.restPatience_table (s : State) : (s.restPatience).table = s.table := by
  unfold State.restPatience; split_ifs <;> rfl
@[simp] theorem State.restPatience_lineCount (s : State) : (s.restPatience).lineCount = s.lineCount := by
  unfold State.restPatience; split_ifs <;> rfl
@[simp] theorem State.restPatience_line (s : State) : (s.restPatience).line = s.line := by
  unfold State.restPatience; split_ifs <;> rfl
@[simp] theorem State.restPatience_part (s : State) : (s.restPatience).part = s.part := by
  unfold State.restPatience; split_ifs <;> rfl
@[simp] theorem State.restPatience_drive (s : State) : (s.restPatience).drive = s.drive := by
  unfold State.restPatience; split_ifs <;> rfl
@[simp] theorem State.restPatience_sense (s : State) : (s.restPatience).sense = s.sense := by
  unfold State.restPatience; split_ifs <;> rfl
@[simp] theorem State.restPatience_power (s : State) : (s.restPatience).power = s.power := by
  unfold State.restPatience; split_ifs <;> rfl
@[simp] theorem State.restPatience_monitor (s : State) : (s.restPatience).monitor = s.monitor := by
  unfold State.restPatience; split_ifs <;> rfl
@[simp] theorem State.restPatience_pending (s : State) : (s.restPatience).pending = s.pending := by
  unfold State.restPatience; split_ifs <;> rfl
@[simp] theorem State.restPatience_cfg (s : State) : (s.restPatience).cfg = s.cfg := by
  simp [State.cfg]
@[simp] theorem State.restPatience_own (s : State) : (s.restPatience).own = s.own := by
  simp [State.own]

/-! ### restIdle -/

@[simp] theorem State.restIdle_rst (s : State) : (s.restIdle).rst = s.rst := by
  unfold State.restIdle; split_ifs <;> rfl
@[simp] theorem State.restIdle_loader (s : State) : (s.restIdle).loader = s.loader := by
  unfold State.restIdle; split_ifs <;> rfl
@[simp] theorem State.restIdle_config (s : State) : (s.restIdle).config = s.config := by
  unfold State.restIdle; split_ifs <;> rfl
@[simp] theorem State.restIdle_table (s : State) : (s.restIdle).table = s.table := by
  unfold State.restIdle; split_ifs <;> rfl
@[simp] theorem State.restIdle_lineCount (s : State) : (s.restIdle).lineCount = s.lineCount := by
  unfold State.restIdle; split_ifs <;> rfl
@[simp] theorem State.restIdle_line (s : State) : (s.restIdle).line = s.line := by
  unfold State.restIdle; split_ifs <;> rfl
@[simp] theorem State.restIdle_part (s : State) : (s.restIdle).part = s.part := by
  unfold State.restIdle; split_ifs <;> rfl
@[simp] theorem State.restIdle_demand (s : State) : (s.restIdle).demand = s.demand := by
  unfold State.restIdle; split_ifs <;> rfl
@[simp] theorem State.restIdle_drive (s : State) : (s.restIdle).drive = s.drive := by
  unfold State.restIdle; split_ifs <;> rfl
@[simp] theorem State.restIdle_sense (s : State) : (s.restIdle).sense = s.sense := by
  unfold State.restIdle; split_ifs <;> rfl
@[simp] theorem State.restIdle_monitor (s : State) : (s.restIdle).monitor = s.monitor := by
  unfold State.restIdle; split_ifs <;> rfl
@[simp] theorem State.restIdle_pending (s : State) : (s.restIdle).pending = s.pending := by
  unfold State.restIdle; split_ifs <;> rfl
@[simp] theorem State.restIdle_cfg (s : State) : (s.restIdle).cfg = s.cfg := by
  simp [State.cfg]
@[simp] theorem State.restIdle_own (s : State) : (s.restIdle).own = s.own := by
  simp [State.own]

/-! ### react -/

@[simp] theorem State.react_rst (s : State) : (s.react).rst = s.rst := by simp [State.react]
@[simp] theorem State.react_loader (s : State) : (s.react).loader = s.loader := by simp [State.react]
@[simp] theorem State.react_config (s : State) : (s.react).config = s.config := by simp [State.react]
@[simp] theorem State.react_table (s : State) : (s.react).table = s.table := by simp [State.react]
@[simp] theorem State.react_lineCount (s : State) : (s.react).lineCount = s.lineCount := by simp [State.react]
@[simp] theorem State.react_line (s : State) : (s.react).line = s.line := by simp [State.react]
@[simp] theorem State.react_part (s : State) : (s.react).part = s.part := by simp [State.react]
@[simp] theorem State.react_monitor (s : State) : (s.react).monitor = s.monitor := by simp [State.react]
@[simp] theorem State.react_pending (s : State) : (s.react).pending = s.pending := by simp [State.react]
@[simp] theorem State.react_cfg (s : State) : (s.react).cfg = s.cfg := by
  simp [State.cfg]
@[simp] theorem State.react_own (s : State) : (s.react).own = s.own := by
  simp [State.own]

/-! ### place -/

@[simp] theorem State.place_rst (s : State) (r : Request) : (s.place r).rst = s.rst := by
  unfold State.place; split_ifs <;> rfl
@[simp] theorem State.place_loader (s : State) (r : Request) : (s.place r).loader = s.loader := by
  unfold State.place; split_ifs <;> rfl
@[simp] theorem State.place_config (s : State) (r : Request) : (s.place r).config = s.config := by
  unfold State.place; split_ifs <;> rfl
@[simp] theorem State.place_table (s : State) (r : Request) : (s.place r).table = s.table := by
  unfold State.place; split_ifs <;> rfl
@[simp] theorem State.place_lineCount (s : State) (r : Request) : (s.place r).lineCount = s.lineCount := by
  unfold State.place; split_ifs <;> rfl
@[simp] theorem State.place_part (s : State) (r : Request) : (s.place r).part = s.part := by
  unfold State.place; split_ifs <;> rfl
@[simp] theorem State.place_demand (s : State) (r : Request) : (s.place r).demand = s.demand := by
  unfold State.place; split_ifs <;> rfl
@[simp] theorem State.place_drive (s : State) (r : Request) : (s.place r).drive = s.drive := by
  unfold State.place; split_ifs <;> rfl
@[simp] theorem State.place_sense (s : State) (r : Request) : (s.place r).sense = s.sense := by
  unfold State.place; split_ifs <;> rfl
@[simp] theorem State.place_power (s : State) (r : Request) : (s.place r).power = s.power := by
  unfold State.place; split_ifs <;> rfl
@[simp] theorem State.place_monitor (s : State) (r : Request) : (s.place r).monitor = s.monitor := by
  unfold State.place; split_ifs <;> rfl
@[simp] theorem State.place_pending (s : State) (r : Request) : (s.place r).pending = s.pending := by
  unfold State.place; split_ifs <;> rfl
@[simp] theorem State.place_cfg (s : State) (r : Request) : (s.place r).cfg = s.cfg := by
  simp [State.cfg]
@[simp] theorem State.place_own (s : State) (r : Request) : (s.place r).own = s.own := by
  simp [State.own]

/-! ### decideDemand -/

@[simp] theorem State.decideDemand_rst (s : State) : (s.decideDemand).rst = s.rst := by
  unfold State.decideDemand; dsimp only; split_ifs <;> simp
@[simp] theorem State.decideDemand_loader (s : State) : (s.decideDemand).loader = s.loader := by
  unfold State.decideDemand; dsimp only; split_ifs <;> simp
@[simp] theorem State.decideDemand_config (s : State) : (s.decideDemand).config = s.config := by
  unfold State.decideDemand; dsimp only; split_ifs <;> simp
@[simp] theorem State.decideDemand_table (s : State) : (s.decideDemand).table = s.table := by
  unfold State.decideDemand; dsimp only; split_ifs <;> simp
@[simp] theorem State.decideDemand_lineCount (s : State) : (s.decideDemand).lineCount = s.lineCount := by
  unfold State.decideDemand; dsimp only; split_ifs <;> simp
@[simp] theorem State.decideDemand_part (s : State) : (s.decideDemand).part = s.part := by
  unfold State.decideDemand; dsimp only; split_ifs <;> simp
@[simp] theorem State.decideDemand_demand (s : State) : (s.decideDemand).demand = s.demand := by
  unfold State.decideDemand; dsimp only; split_ifs <;> simp
@[simp] theorem State.decideDemand_drive (s : State) : (s.decideDemand).drive = s.drive := by
  unfold State.decideDemand; dsimp only; split_ifs <;> simp
@[simp] theorem State.decideDemand_sense (s : State) : (s.decideDemand).sense = s.sense := by
  unfold State.decideDemand; dsimp only; split_ifs <;> simp
@[simp] theorem State.decideDemand_power (s : State) : (s.decideDemand).power = s.power := by
  unfold State.decideDemand; dsimp only; split_ifs <;> simp
@[simp] theorem State.decideDemand_monitor (s : State) : (s.decideDemand).monitor = s.monitor := by
  unfold State.decideDemand; dsimp only; split_ifs <;> simp
@[simp] theorem State.decideDemand_pending (s : State) : (s.decideDemand).pending = s.pending := by
  unfold State.decideDemand; dsimp only; split_ifs <;> simp
@[simp] theorem State.decideDemand_cfg (s : State) : (s.decideDemand).cfg = s.cfg := by
  simp [State.cfg]
@[simp] theorem State.decideDemand_own (s : State) : (s.decideDemand).own = s.own := by
  simp [State.own]

/-! ### decideSince -/

@[simp] theorem State.decideSince_rst (s : State) (before : State) : (s.decideSince before).rst = s.rst := by
  unfold State.decideSince; split_ifs <;> simp
@[simp] theorem State.decideSince_loader (s : State) (before : State) : (s.decideSince before).loader = s.loader := by
  unfold State.decideSince; split_ifs <;> simp
@[simp] theorem State.decideSince_config (s : State) (before : State) : (s.decideSince before).config = s.config := by
  unfold State.decideSince; split_ifs <;> simp
@[simp] theorem State.decideSince_table (s : State) (before : State) : (s.decideSince before).table = s.table := by
  unfold State.decideSince; split_ifs <;> simp
@[simp] theorem State.decideSince_lineCount (s : State) (before : State) : (s.decideSince before).lineCount = s.lineCount := by
  unfold State.decideSince; split_ifs <;> simp
@[simp] theorem State.decideSince_part (s : State) (before : State) : (s.decideSince before).part = s.part := by
  unfold State.decideSince; split_ifs <;> simp
@[simp] theorem State.decideSince_demand (s : State) (before : State) : (s.decideSince before).demand = s.demand := by
  unfold State.decideSince; split_ifs <;> simp
@[simp] theorem State.decideSince_drive (s : State) (before : State) : (s.decideSince before).drive = s.drive := by
  unfold State.decideSince; split_ifs <;> simp
@[simp] theorem State.decideSince_sense (s : State) (before : State) : (s.decideSince before).sense = s.sense := by
  unfold State.decideSince; split_ifs <;> simp
@[simp] theorem State.decideSince_power (s : State) (before : State) : (s.decideSince before).power = s.power := by
  unfold State.decideSince; split_ifs <;> simp
@[simp] theorem State.decideSince_monitor (s : State) (before : State) : (s.decideSince before).monitor = s.monitor := by
  unfold State.decideSince; split_ifs <;> simp
@[simp] theorem State.decideSince_pending (s : State) (before : State) : (s.decideSince before).pending = s.pending := by
  unfold State.decideSince; split_ifs <;> simp
@[simp] theorem State.decideSince_cfg (s : State) (before : State) : (s.decideSince before).cfg = s.cfg := by
  simp [State.cfg]
@[simp] theorem State.decideSince_own (s : State) (before : State) : (s.decideSince before).own = s.own := by
  simp [State.own]

/-! ### rampAtBoundary -/

@[simp] theorem State.rampAtBoundary_rst (s : State) (sinceStart : Nat) : (s.rampAtBoundary sinceStart).rst = s.rst := by
  unfold State.rampAtBoundary; split <;> (try split_ifs) <;> rfl
@[simp] theorem State.rampAtBoundary_loader (s : State) (sinceStart : Nat) : (s.rampAtBoundary sinceStart).loader = s.loader := by
  unfold State.rampAtBoundary; split <;> (try split_ifs) <;> rfl
@[simp] theorem State.rampAtBoundary_config (s : State) (sinceStart : Nat) : (s.rampAtBoundary sinceStart).config = s.config := by
  unfold State.rampAtBoundary; split <;> (try split_ifs) <;> rfl
@[simp] theorem State.rampAtBoundary_table (s : State) (sinceStart : Nat) : (s.rampAtBoundary sinceStart).table = s.table := by
  unfold State.rampAtBoundary; split <;> (try split_ifs) <;> rfl
@[simp] theorem State.rampAtBoundary_lineCount (s : State) (sinceStart : Nat) : (s.rampAtBoundary sinceStart).lineCount = s.lineCount := by
  unfold State.rampAtBoundary; split <;> (try split_ifs) <;> rfl
@[simp] theorem State.rampAtBoundary_line (s : State) (sinceStart : Nat) : (s.rampAtBoundary sinceStart).line = s.line := by
  unfold State.rampAtBoundary; split <;> (try split_ifs) <;> rfl
@[simp] theorem State.rampAtBoundary_part (s : State) (sinceStart : Nat) : (s.rampAtBoundary sinceStart).part = s.part := by
  unfold State.rampAtBoundary; split <;> (try split_ifs) <;> rfl
@[simp] theorem State.rampAtBoundary_demand (s : State) (sinceStart : Nat) : (s.rampAtBoundary sinceStart).demand = s.demand := by
  unfold State.rampAtBoundary; split <;> (try split_ifs) <;> rfl
@[simp] theorem State.rampAtBoundary_sense (s : State) (sinceStart : Nat) : (s.rampAtBoundary sinceStart).sense = s.sense := by
  unfold State.rampAtBoundary; split <;> (try split_ifs) <;> rfl
@[simp] theorem State.rampAtBoundary_power (s : State) (sinceStart : Nat) : (s.rampAtBoundary sinceStart).power = s.power := by
  unfold State.rampAtBoundary; split <;> (try split_ifs) <;> rfl
@[simp] theorem State.rampAtBoundary_monitor (s : State) (sinceStart : Nat) : (s.rampAtBoundary sinceStart).monitor = s.monitor := by
  unfold State.rampAtBoundary; split <;> (try split_ifs) <;> rfl
@[simp] theorem State.rampAtBoundary_pending (s : State) (sinceStart : Nat) : (s.rampAtBoundary sinceStart).pending = s.pending := by
  unfold State.rampAtBoundary; split <;> (try split_ifs) <;> rfl
@[simp] theorem State.rampAtBoundary_cfg (s : State) (sinceStart : Nat) : (s.rampAtBoundary sinceStart).cfg = s.cfg := by
  simp [State.cfg]
@[simp] theorem State.rampAtBoundary_own (s : State) (sinceStart : Nat) : (s.rampAtBoundary sinceStart).own = s.own := by
  simp [State.own]

/-! ### scheduleAtBoundary -/

@[simp] theorem State.scheduleAtBoundary_rst (s : State) (firstTwenty : Bool) : (s.scheduleAtBoundary firstTwenty).rst = s.rst := by
  unfold State.scheduleAtBoundary; (try dsimp only); split_ifs <;> rfl
@[simp] theorem State.scheduleAtBoundary_loader (s : State) (firstTwenty : Bool) : (s.scheduleAtBoundary firstTwenty).loader = s.loader := by
  unfold State.scheduleAtBoundary; (try dsimp only); split_ifs <;> rfl
@[simp] theorem State.scheduleAtBoundary_config (s : State) (firstTwenty : Bool) : (s.scheduleAtBoundary firstTwenty).config = s.config := by
  unfold State.scheduleAtBoundary; (try dsimp only); split_ifs <;> rfl
@[simp] theorem State.scheduleAtBoundary_table (s : State) (firstTwenty : Bool) : (s.scheduleAtBoundary firstTwenty).table = s.table := by
  unfold State.scheduleAtBoundary; (try dsimp only); split_ifs <;> rfl
@[simp] theorem State.scheduleAtBoundary_lineCount (s : State) (firstTwenty : Bool) : (s.scheduleAtBoundary firstTwenty).lineCount = s.lineCount := by
  unfold State.scheduleAtBoundary; (try dsimp only); split_ifs <;> rfl
@[simp] theorem State.scheduleAtBoundary_line (s : State) (firstTwenty : Bool) : (s.scheduleAtBoundary firstTwenty).line = s.line := by
  unfold State.scheduleAtBoundary; (try dsimp only); split_ifs <;> rfl
@[simp] theorem State.scheduleAtBoundary_part (s : State) (firstTwenty : Bool) : (s.scheduleAtBoundary firstTwenty).part = s.part := by
  unfold State.scheduleAtBoundary; (try dsimp only); split_ifs <;> rfl
@[simp] theorem State.scheduleAtBoundary_demand (s : State) (firstTwenty : Bool) : (s.scheduleAtBoundary firstTwenty).demand = s.demand := by
  unfold State.scheduleAtBoundary; (try dsimp only); split_ifs <;> rfl
@[simp] theorem State.scheduleAtBoundary_drive (s : State) (firstTwenty : Bool) : (s.scheduleAtBoundary firstTwenty).drive = s.drive := by
  unfold State.scheduleAtBoundary; (try dsimp only); split_ifs <;> rfl
@[simp] theorem State.scheduleAtBoundary_power (s : State) (firstTwenty : Bool) : (s.scheduleAtBoundary firstTwenty).power = s.power := by
  unfold State.scheduleAtBoundary; (try dsimp only); split_ifs <;> rfl
@[simp] theorem State.scheduleAtBoundary_monitor (s : State) (firstTwenty : Bool) : (s.scheduleAtBoundary firstTwenty).monitor = s.monitor := by
  unfold State.scheduleAtBoundary; (try dsimp only); split_ifs <;> rfl
@[simp] theorem State.scheduleAtBoundary_pending (s : State) (firstTwenty : Bool) : (s.scheduleAtBoundary firstTwenty).pending = s.pending := by
  unfold State.scheduleAtBoundary; (try dsimp only); split_ifs <;> rfl
@[simp] theorem State.scheduleAtBoundary_cfg (s : State) (firstTwenty : Bool) : (s.scheduleAtBoundary firstTwenty).cfg = s.cfg := by
  simp [State.cfg]
@[simp] theorem State.scheduleAtBoundary_own (s : State) (firstTwenty : Bool) : (s.scheduleAtBoundary firstTwenty).own = s.own := by
  simp [State.own]

/-! ### boundary -/

@[simp] theorem State.boundary_rst (s : State) (sinceStart : Nat) : (s.boundary sinceStart).rst = s.rst := by simp [State.boundary]
@[simp] theorem State.boundary_loader (s : State) (sinceStart : Nat) : (s.boundary sinceStart).loader = s.loader := by simp [State.boundary]
@[simp] theorem State.boundary_config (s : State) (sinceStart : Nat) : (s.boundary sinceStart).config = s.config := by simp [State.boundary]
@[simp] theorem State.boundary_table (s : State) (sinceStart : Nat) : (s.boundary sinceStart).table = s.table := by simp [State.boundary]
@[simp] theorem State.boundary_lineCount (s : State) (sinceStart : Nat) : (s.boundary sinceStart).lineCount = s.lineCount := by simp [State.boundary]
@[simp] theorem State.boundary_line (s : State) (sinceStart : Nat) : (s.boundary sinceStart).line = s.line := by simp [State.boundary]
@[simp] theorem State.boundary_part (s : State) (sinceStart : Nat) : (s.boundary sinceStart).part = s.part := by simp [State.boundary]
@[simp] theorem State.boundary_demand (s : State) (sinceStart : Nat) : (s.boundary sinceStart).demand = s.demand := by simp [State.boundary]
@[simp] theorem State.boundary_power (s : State) (sinceStart : Nat) : (s.boundary sinceStart).power = s.power := by simp [State.boundary]
@[simp] theorem State.boundary_monitor (s : State) (sinceStart : Nat) : (s.boundary sinceStart).monitor = s.monitor := by simp [State.boundary]
@[simp] theorem State.boundary_pending (s : State) (sinceStart : Nat) : (s.boundary sinceStart).pending = s.pending := by simp [State.boundary]
@[simp] theorem State.boundary_cfg (s : State) (sinceStart : Nat) : (s.boundary sinceStart).cfg = s.cfg := by
  simp [State.cfg]
@[simp] theorem State.boundary_own (s : State) (sinceStart : Nat) : (s.boundary sinceStart).own = s.own := by
  simp [State.own]

/-! ### startPeriods -/

@[simp] theorem State.startPeriods_rst (s : State) : (s.startPeriods).rst = s.rst := by simp [State.startPeriods]
@[simp] theorem State.startPeriods_loader (s : State) : (s.startPeriods).loader = s.loader := by simp [State.startPeriods]
@[simp] theorem State.startPeriods_config (s : State) : (s.startPeriods).config = s.config := by simp [State.startPeriods]
@[simp] theorem State.startPeriods_table (s : State) : (s.startPeriods).table = s.table := by simp [State.startPeriods]
@[simp] theorem State.startPeriods_lineCount (s : State) : (s.startPeriods).lineCount = s.lineCount := by simp [State.startPeriods]
@[simp] theorem State.startPeriods_line (s : State) : (s.startPeriods).line = s.line := by simp [State.startPeriods]
@[simp] theorem State.startPeriods_part (s : State) : (s.startPeriods).part = s.part := by simp [State.startPeriods]
@[simp] theorem State.startPeriods_demand (s : State) : (s.startPeriods).demand = s.demand := by simp [State.startPeriods]
@[simp] theorem State.startPeriods_power (s : State) : (s.startPeriods).power = s.power := by simp [State.startPeriods]
@[simp] theorem State.startPeriods_monitor (s : State) : (s.startPeriods).monitor = s.monitor := by simp [State.startPeriods]
@[simp] theorem State.startPeriods_pending (s : State) : (s.startPeriods).pending = s.pending := by simp [State.startPeriods]
@[simp] theorem State.startPeriods_cfg (s : State) : (s.startPeriods).cfg = s.cfg := by
  simp [State.cfg]
@[simp] theorem State.startPeriods_own (s : State) : (s.startPeriods).own = s.own := by
  simp [State.own]

/-! ### endListen -/

@[simp] theorem State.endListen_rst (s : State) : (s.endListen).rst = s.rst := by
  unfold State.endListen; split_ifs <;> simp
@[simp] theorem State.endListen_loader (s : State) : (s.endListen).loader = s.loader := by
  unfold State.endListen; split_ifs <;> simp
@[simp] theorem State.endListen_config (s : State) : (s.endListen).config = s.config := by
  unfold State.endListen; split_ifs <;> simp
@[simp] theorem State.endListen_table (s : State) : (s.endListen).table = s.table := by
  unfold State.endListen; split_ifs <;> simp
@[simp] theorem State.endListen_lineCount (s : State) : (s.endListen).lineCount = s.lineCount := by
  unfold State.endListen; split_ifs <;> simp
@[simp] theorem State.endListen_line (s : State) : (s.endListen).line = s.line := by
  unfold State.endListen; split_ifs <;> simp
@[simp] theorem State.endListen_part (s : State) : (s.endListen).part = s.part := by
  unfold State.endListen; split_ifs <;> simp
@[simp] theorem State.endListen_demand (s : State) : (s.endListen).demand = s.demand := by
  unfold State.endListen; split_ifs <;> simp
@[simp] theorem State.endListen_monitor (s : State) : (s.endListen).monitor = s.monitor := by
  unfold State.endListen; split_ifs <;> simp
@[simp] theorem State.endListen_pending (s : State) : (s.endListen).pending = s.pending := by
  unfold State.endListen; split_ifs <;> simp
@[simp] theorem State.endListen_cfg (s : State) : (s.endListen).cfg = s.cfg := by
  simp [State.cfg]
@[simp] theorem State.endListen_own (s : State) : (s.endListen).own = s.own := by
  simp [State.own]

/-! ### enterGather -/

@[simp] theorem State.enterGather_rst (s : State) (stale : Bool) : (s.enterGather stale).rst = s.rst := by simp [State.enterGather]
@[simp] theorem State.enterGather_loader (s : State) (stale : Bool) : (s.enterGather stale).loader = s.loader := by simp [State.enterGather]
@[simp] theorem State.enterGather_config (s : State) (stale : Bool) : (s.enterGather stale).config = s.config := by simp [State.enterGather]
@[simp] theorem State.enterGather_pending (s : State) (stale : Bool) : (s.enterGather stale).pending = s.pending := by simp [State.enterGather]
@[simp] theorem State.enterGather_cfg (s : State) (stale : Bool) : (s.enterGather stale).cfg = s.cfg := by
  simp [State.cfg]
@[simp] theorem State.enterGather_own (s : State) (stale : Bool) : (s.enterGather stale).own = s.own := by
  simp [State.own]

/-! ### enterMute -/

@[simp] theorem State.enterMute_rst (s : State) : (s.enterMute).rst = s.rst := by simp [State.enterMute]
@[simp] theorem State.enterMute_loader (s : State) : (s.enterMute).loader = s.loader := by simp [State.enterMute]
@[simp] theorem State.enterMute_config (s : State) : (s.enterMute).config = s.config := by simp [State.enterMute]
@[simp] theorem State.enterMute_table (s : State) : (s.enterMute).table = s.table := by simp [State.enterMute]
@[simp] theorem State.enterMute_lineCount (s : State) : (s.enterMute).lineCount = s.lineCount := by simp [State.enterMute]
@[simp] theorem State.enterMute_pending (s : State) : (s.enterMute).pending = s.pending := by simp [State.enterMute]
@[simp] theorem State.enterMute_cfg (s : State) : (s.enterMute).cfg = s.cfg := by
  simp [State.cfg]
@[simp] theorem State.enterMute_own (s : State) : (s.enterMute).own = s.own := by
  simp [State.own]

/-! ### enterHalted -/

@[simp] theorem State.enterHalted_rst (s : State) (cause : HaltCause) : (s.enterHalted cause).rst = s.rst := by simp [State.enterHalted]
@[simp] theorem State.enterHalted_loader (s : State) (cause : HaltCause) : (s.enterHalted cause).loader = s.loader := by simp [State.enterHalted]
@[simp] theorem State.enterHalted_config (s : State) (cause : HaltCause) : (s.enterHalted cause).config = s.config := by simp [State.enterHalted]
@[simp] theorem State.enterHalted_table (s : State) (cause : HaltCause) : (s.enterHalted cause).table = s.table := by simp [State.enterHalted]
@[simp] theorem State.enterHalted_lineCount (s : State) (cause : HaltCause) : (s.enterHalted cause).lineCount = s.lineCount := by simp [State.enterHalted]
@[simp] theorem State.enterHalted_pending (s : State) (cause : HaltCause) : (s.enterHalted cause).pending = s.pending := by simp [State.enterHalted]
@[simp] theorem State.enterHalted_cfg (s : State) (cause : HaltCause) : (s.enterHalted cause).cfg = s.cfg := by
  simp [State.cfg]
@[simp] theorem State.enterHalted_own (s : State) (cause : HaltCause) : (s.enterHalted cause).own = s.own := by
  simp [State.own]

/-! ### ownError -/

@[simp] theorem State.ownError_rst (s : State) : (s.ownError).rst = s.rst := by
  unfold State.ownError; dsimp only; split_ifs <;> simp
@[simp] theorem State.ownError_loader (s : State) : (s.ownError).loader = s.loader := by
  unfold State.ownError; dsimp only; split_ifs <;> simp
@[simp] theorem State.ownError_config (s : State) : (s.ownError).config = s.config := by
  unfold State.ownError; dsimp only; split_ifs <;> simp
@[simp] theorem State.ownError_table (s : State) : (s.ownError).table = s.table := by
  unfold State.ownError; dsimp only; split_ifs <;> simp
@[simp] theorem State.ownError_lineCount (s : State) : (s.ownError).lineCount = s.lineCount := by
  unfold State.ownError; dsimp only; split_ifs <;> simp
@[simp] theorem State.ownError_pending (s : State) : (s.ownError).pending = s.pending := by
  unfold State.ownError; dsimp only; split_ifs <;> simp
@[simp] theorem State.ownError_cfg (s : State) : (s.ownError).cfg = s.cfg := by
  simp [State.cfg]
@[simp] theorem State.ownError_own (s : State) : (s.ownError).own = s.own := by
  simp [State.own]

/-! ### leaveMute -/

@[simp] theorem State.leaveMute_rst (s : State) : (s.leaveMute).rst = s.rst := by
  unfold State.leaveMute; split_ifs <;> simp
@[simp] theorem State.leaveMute_loader (s : State) : (s.leaveMute).loader = s.loader := by
  unfold State.leaveMute; split_ifs <;> simp
@[simp] theorem State.leaveMute_config (s : State) : (s.leaveMute).config = s.config := by
  unfold State.leaveMute; split_ifs <;> simp
@[simp] theorem State.leaveMute_pending (s : State) : (s.leaveMute).pending = s.pending := by
  unfold State.leaveMute; split_ifs <;> simp
@[simp] theorem State.leaveMute_cfg (s : State) : (s.leaveMute).cfg = s.cfg := by
  simp [State.cfg]
@[simp] theorem State.leaveMute_own (s : State) : (s.leaveMute).own = s.own := by
  simp [State.own]

/-! ### tickAges -/

@[simp] theorem State.tickAges_rst (s : State) : (s.tickAges).rst = s.rst := by
  unfold State.tickAges; split_ifs <;> rfl
@[simp] theorem State.tickAges_loader (s : State) : (s.tickAges).loader = s.loader := by
  unfold State.tickAges; split_ifs <;> rfl
@[simp] theorem State.tickAges_config (s : State) : (s.tickAges).config = s.config := by
  unfold State.tickAges; split_ifs <;> rfl
@[simp] theorem State.tickAges_lineCount (s : State) : (s.tickAges).lineCount = s.lineCount := by
  unfold State.tickAges; split_ifs <;> rfl
@[simp] theorem State.tickAges_line (s : State) : (s.tickAges).line = s.line := by
  unfold State.tickAges; split_ifs <;> rfl
@[simp] theorem State.tickAges_part (s : State) : (s.tickAges).part = s.part := by
  unfold State.tickAges; split_ifs <;> rfl
@[simp] theorem State.tickAges_demand (s : State) : (s.tickAges).demand = s.demand := by
  unfold State.tickAges; split_ifs <;> rfl
@[simp] theorem State.tickAges_drive (s : State) : (s.tickAges).drive = s.drive := by
  unfold State.tickAges; split_ifs <;> rfl
@[simp] theorem State.tickAges_sense (s : State) : (s.tickAges).sense = s.sense := by
  unfold State.tickAges; split_ifs <;> rfl
@[simp] theorem State.tickAges_power (s : State) : (s.tickAges).power = s.power := by
  unfold State.tickAges; split_ifs <;> rfl
@[simp] theorem State.tickAges_monitor (s : State) : (s.tickAges).monitor = s.monitor := by
  unfold State.tickAges; split_ifs <;> rfl
@[simp] theorem State.tickAges_pending (s : State) : (s.tickAges).pending = s.pending := by
  unfold State.tickAges; split_ifs <;> rfl
@[simp] theorem State.tickAges_cfg (s : State) : (s.tickAges).cfg = s.cfg := by
  simp [State.cfg]
@[simp] theorem State.tickAges_own (s : State) : (s.tickAges).own = s.own := by
  simp [State.own]

/-! ### tickHorizon -/

@[simp] theorem State.tickHorizon_rst (s : State) : (s.tickHorizon).rst = s.rst := by
  unfold State.tickHorizon; split_ifs <;> rfl
@[simp] theorem State.tickHorizon_loader (s : State) : (s.tickHorizon).loader = s.loader := by
  unfold State.tickHorizon; split_ifs <;> rfl
@[simp] theorem State.tickHorizon_config (s : State) : (s.tickHorizon).config = s.config := by
  unfold State.tickHorizon; split_ifs <;> rfl
@[simp] theorem State.tickHorizon_table (s : State) : (s.tickHorizon).table = s.table := by
  unfold State.tickHorizon; split_ifs <;> rfl
@[simp] theorem State.tickHorizon_lineCount (s : State) : (s.tickHorizon).lineCount = s.lineCount := by
  unfold State.tickHorizon; split_ifs <;> rfl
@[simp] theorem State.tickHorizon_line (s : State) : (s.tickHorizon).line = s.line := by
  unfold State.tickHorizon; split_ifs <;> rfl
@[simp] theorem State.tickHorizon_demand (s : State) : (s.tickHorizon).demand = s.demand := by
  unfold State.tickHorizon; split_ifs <;> rfl
@[simp] theorem State.tickHorizon_drive (s : State) : (s.tickHorizon).drive = s.drive := by
  unfold State.tickHorizon; split_ifs <;> rfl
@[simp] theorem State.tickHorizon_sense (s : State) : (s.tickHorizon).sense = s.sense := by
  unfold State.tickHorizon; split_ifs <;> rfl
@[simp] theorem State.tickHorizon_power (s : State) : (s.tickHorizon).power = s.power := by
  unfold State.tickHorizon; split_ifs <;> rfl
@[simp] theorem State.tickHorizon_monitor (s : State) : (s.tickHorizon).monitor = s.monitor := by
  unfold State.tickHorizon; split_ifs <;> rfl
@[simp] theorem State.tickHorizon_pending (s : State) : (s.tickHorizon).pending = s.pending := by
  unfold State.tickHorizon; split_ifs <;> rfl
@[simp] theorem State.tickHorizon_cfg (s : State) : (s.tickHorizon).cfg = s.cfg := by
  simp [State.cfg]
@[simp] theorem State.tickHorizon_own (s : State) : (s.tickHorizon).own = s.own := by
  simp [State.own]

/-! ### tickWindow -/

@[simp] theorem State.tickWindow_rst (s : State) : (s.tickWindow).rst = s.rst := by
  unfold State.tickWindow State.closeWindow; split_ifs <;> simp
@[simp] theorem State.tickWindow_loader (s : State) : (s.tickWindow).loader = s.loader := by
  unfold State.tickWindow State.closeWindow; split_ifs <;> simp
@[simp] theorem State.tickWindow_config (s : State) : (s.tickWindow).config = s.config := by
  unfold State.tickWindow State.closeWindow; split_ifs <;> simp
@[simp] theorem State.tickWindow_demand (s : State) : (s.tickWindow).demand = s.demand := by
  unfold State.tickWindow State.closeWindow; split_ifs <;> simp
@[simp] theorem State.tickWindow_drive (s : State) : (s.tickWindow).drive = s.drive := by
  unfold State.tickWindow State.closeWindow; split_ifs <;> simp
@[simp] theorem State.tickWindow_sense (s : State) : (s.tickWindow).sense = s.sense := by
  unfold State.tickWindow State.closeWindow; split_ifs <;> simp
@[simp] theorem State.tickWindow_power (s : State) : (s.tickWindow).power = s.power := by
  unfold State.tickWindow State.closeWindow; split_ifs <;> simp
@[simp] theorem State.tickWindow_monitor (s : State) : (s.tickWindow).monitor = s.monitor := by
  unfold State.tickWindow State.closeWindow; split_ifs <;> simp
@[simp] theorem State.tickWindow_pending (s : State) : (s.tickWindow).pending = s.pending := by
  unfold State.tickWindow State.closeWindow; split_ifs <;> simp
@[simp] theorem State.tickWindow_cfg (s : State) : (s.tickWindow).cfg = s.cfg := by
  simp [State.cfg]
@[simp] theorem State.tickWindow_own (s : State) : (s.tickWindow).own = s.own := by
  simp [State.own]

/-! ### tickAnnounce -/

@[simp] theorem State.tickAnnounce_rst (s : State) : (s.tickAnnounce).rst = s.rst := by
  unfold State.tickAnnounce State.announceDue; split_ifs <;> simp
@[simp] theorem State.tickAnnounce_loader (s : State) : (s.tickAnnounce).loader = s.loader := by
  unfold State.tickAnnounce State.announceDue; split_ifs <;> simp
@[simp] theorem State.tickAnnounce_config (s : State) : (s.tickAnnounce).config = s.config := by
  unfold State.tickAnnounce State.announceDue; split_ifs <;> simp
@[simp] theorem State.tickAnnounce_table (s : State) : (s.tickAnnounce).table = s.table := by
  unfold State.tickAnnounce State.announceDue; split_ifs <;> simp
@[simp] theorem State.tickAnnounce_lineCount (s : State) : (s.tickAnnounce).lineCount = s.lineCount := by
  unfold State.tickAnnounce State.announceDue; split_ifs <;> simp
@[simp] theorem State.tickAnnounce_demand (s : State) : (s.tickAnnounce).demand = s.demand := by
  unfold State.tickAnnounce State.announceDue; split_ifs <;> simp
@[simp] theorem State.tickAnnounce_drive (s : State) : (s.tickAnnounce).drive = s.drive := by
  unfold State.tickAnnounce State.announceDue; split_ifs <;> simp
@[simp] theorem State.tickAnnounce_sense (s : State) : (s.tickAnnounce).sense = s.sense := by
  unfold State.tickAnnounce State.announceDue; split_ifs <;> simp
@[simp] theorem State.tickAnnounce_power (s : State) : (s.tickAnnounce).power = s.power := by
  unfold State.tickAnnounce State.announceDue; split_ifs <;> simp
@[simp] theorem State.tickAnnounce_monitor (s : State) : (s.tickAnnounce).monitor = s.monitor := by
  unfold State.tickAnnounce State.announceDue; split_ifs <;> simp
@[simp] theorem State.tickAnnounce_pending (s : State) : (s.tickAnnounce).pending = s.pending := by
  unfold State.tickAnnounce State.announceDue; split_ifs <;> simp
@[simp] theorem State.tickAnnounce_cfg (s : State) : (s.tickAnnounce).cfg = s.cfg := by
  simp [State.cfg]
@[simp] theorem State.tickAnnounce_own (s : State) : (s.tickAnnounce).own = s.own := by
  simp [State.own]

/-! ### tickIdle -/

@[simp] theorem State.tickIdle_rst (s : State) : (s.tickIdle).rst = s.rst := by
  unfold State.tickIdle; split_ifs <;> rfl
@[simp] theorem State.tickIdle_loader (s : State) : (s.tickIdle).loader = s.loader := by
  unfold State.tickIdle; split_ifs <;> rfl
@[simp] theorem State.tickIdle_config (s : State) : (s.tickIdle).config = s.config := by
  unfold State.tickIdle; split_ifs <;> rfl
@[simp] theorem State.tickIdle_table (s : State) : (s.tickIdle).table = s.table := by
  unfold State.tickIdle; split_ifs <;> rfl
@[simp] theorem State.tickIdle_lineCount (s : State) : (s.tickIdle).lineCount = s.lineCount := by
  unfold State.tickIdle; split_ifs <;> rfl
@[simp] theorem State.tickIdle_line (s : State) : (s.tickIdle).line = s.line := by
  unfold State.tickIdle; split_ifs <;> rfl
@[simp] theorem State.tickIdle_part (s : State) : (s.tickIdle).part = s.part := by
  unfold State.tickIdle; split_ifs <;> rfl
@[simp] theorem State.tickIdle_demand (s : State) : (s.tickIdle).demand = s.demand := by
  unfold State.tickIdle; split_ifs <;> rfl
@[simp] theorem State.tickIdle_drive (s : State) : (s.tickIdle).drive = s.drive := by
  unfold State.tickIdle; split_ifs <;> rfl
@[simp] theorem State.tickIdle_sense (s : State) : (s.tickIdle).sense = s.sense := by
  unfold State.tickIdle; split_ifs <;> rfl
@[simp] theorem State.tickIdle_monitor (s : State) : (s.tickIdle).monitor = s.monitor := by
  unfold State.tickIdle; split_ifs <;> rfl
@[simp] theorem State.tickIdle_pending (s : State) : (s.tickIdle).pending = s.pending := by
  unfold State.tickIdle; split_ifs <;> rfl
@[simp] theorem State.tickIdle_cfg (s : State) : (s.tickIdle).cfg = s.cfg := by
  simp [State.cfg]
@[simp] theorem State.tickIdle_own (s : State) : (s.tickIdle).own = s.own := by
  simp [State.own]

/-! ### tickDormant -/

@[simp] theorem State.tickDormant_rst (s : State) : (s.tickDormant).rst = s.rst := by
  unfold State.tickDormant; split_ifs <;> rfl
@[simp] theorem State.tickDormant_loader (s : State) : (s.tickDormant).loader = s.loader := by
  unfold State.tickDormant; split_ifs <;> rfl
@[simp] theorem State.tickDormant_config (s : State) : (s.tickDormant).config = s.config := by
  unfold State.tickDormant; split_ifs <;> rfl
@[simp] theorem State.tickDormant_table (s : State) : (s.tickDormant).table = s.table := by
  unfold State.tickDormant; split_ifs <;> rfl
@[simp] theorem State.tickDormant_lineCount (s : State) : (s.tickDormant).lineCount = s.lineCount := by
  unfold State.tickDormant; split_ifs <;> rfl
@[simp] theorem State.tickDormant_line (s : State) : (s.tickDormant).line = s.line := by
  unfold State.tickDormant; split_ifs <;> rfl
@[simp] theorem State.tickDormant_part (s : State) : (s.tickDormant).part = s.part := by
  unfold State.tickDormant; split_ifs <;> rfl
@[simp] theorem State.tickDormant_demand (s : State) : (s.tickDormant).demand = s.demand := by
  unfold State.tickDormant; split_ifs <;> rfl
@[simp] theorem State.tickDormant_drive (s : State) : (s.tickDormant).drive = s.drive := by
  unfold State.tickDormant; split_ifs <;> rfl
@[simp] theorem State.tickDormant_sense (s : State) : (s.tickDormant).sense = s.sense := by
  unfold State.tickDormant; split_ifs <;> rfl
@[simp] theorem State.tickDormant_monitor (s : State) : (s.tickDormant).monitor = s.monitor := by
  unfold State.tickDormant; split_ifs <;> rfl
@[simp] theorem State.tickDormant_pending (s : State) : (s.tickDormant).pending = s.pending := by
  unfold State.tickDormant; split_ifs <;> rfl
@[simp] theorem State.tickDormant_cfg (s : State) : (s.tickDormant).cfg = s.cfg := by
  simp [State.cfg]
@[simp] theorem State.tickDormant_own (s : State) : (s.tickDormant).own = s.own := by
  simp [State.own]

/-! ### lookForSilence -/

@[simp] theorem State.lookForSilence_rst (s : State) : (s.lookForSilence).rst = s.rst := by
  unfold State.lookForSilence; split_ifs <;> simp
@[simp] theorem State.lookForSilence_loader (s : State) : (s.lookForSilence).loader = s.loader := by
  unfold State.lookForSilence; split_ifs <;> simp
@[simp] theorem State.lookForSilence_config (s : State) : (s.lookForSilence).config = s.config := by
  unfold State.lookForSilence; split_ifs <;> simp
@[simp] theorem State.lookForSilence_table (s : State) : (s.lookForSilence).table = s.table := by
  unfold State.lookForSilence; split_ifs <;> simp
@[simp] theorem State.lookForSilence_lineCount (s : State) : (s.lookForSilence).lineCount = s.lineCount := by
  unfold State.lookForSilence; split_ifs <;> simp
@[simp] theorem State.lookForSilence_part (s : State) : (s.lookForSilence).part = s.part := by
  unfold State.lookForSilence; split_ifs <;> simp
@[simp] theorem State.lookForSilence_demand (s : State) : (s.lookForSilence).demand = s.demand := by
  unfold State.lookForSilence; split_ifs <;> simp
@[simp] theorem State.lookForSilence_drive (s : State) : (s.lookForSilence).drive = s.drive := by
  unfold State.lookForSilence; split_ifs <;> simp
@[simp] theorem State.lookForSilence_sense (s : State) : (s.lookForSilence).sense = s.sense := by
  unfold State.lookForSilence; split_ifs <;> simp
@[simp] theorem State.lookForSilence_power (s : State) : (s.lookForSilence).power = s.power := by
  unfold State.lookForSilence; split_ifs <;> simp
@[simp] theorem State.lookForSilence_monitor (s : State) : (s.lookForSilence).monitor = s.monitor := by
  unfold State.lookForSilence; split_ifs <;> simp
@[simp] theorem State.lookForSilence_pending (s : State) : (s.lookForSilence).pending = s.pending := by
  unfold State.lookForSilence; split_ifs <;> simp
@[simp] theorem State.lookForSilence_cfg (s : State) : (s.lookForSilence).cfg = s.cfg := by
  simp [State.cfg]
@[simp] theorem State.lookForSilence_own (s : State) : (s.lookForSilence).own = s.own := by
  simp [State.own]

end Sys2Proof.Machine
end

