-- ==== Sys2Proof/Laws/Drive.lean ====
section
/-! SUPPORT. The levels that State computes, what they depend on, and what following them does to the
Load Drive. -/

namespace Sys2Proof.Machine

/-! ### What the levels depend on -/

theorem State.allowedLevel_congr {s t : State} (htable : t.table = s.table)
    (hloader : t.loader = s.loader) (hconfig : t.config = s.config) :
    t.allowedLevel = s.allowedLevel := by
  simp only [State.allowedLevel, State.ownHolding, State.ownEntry, State.own, State.cfg, htable,
    hloader, hconfig]

theorem State.wantLevel_congr {s t : State} (hconfig : t.config = s.config)
    (hinhibit : t.demand.inhibit = s.demand.inhibit) (hlevel : t.demand.level = s.demand.level)
    (hlockout : t.sense.lockout = s.sense.lockout) : t.wantLevel = s.wantLevel := by
  simp only [State.wantLevel, State.cfg, hconfig, hinhibit, hlevel, hlockout]

theorem State.target_congr {s t : State} (hallowed : t.allowedLevel = s.allowedLevel)
    (hwant : t.wantLevel = s.wantLevel) (hconfig : t.config = s.config) (hpart : t.part = s.part)
    (hsag : t.sense.sagHold = s.sense.sagHold) (hlockout : t.sense.lockout = s.sense.lockout)
    (hpower : t.power.state = s.power.state) : t.target = s.target := by
  simp only [State.target, State.horizonLimit, State.sagLimit, State.lockoutLimit, State.stateLimit,
    State.cfg, hallowed, hwant, hconfig, hpart, hsag, hlockout, hpower]

theorem capped_le_left (n : Nat) (limit : Option Nat) : capped n limit ≤ n := Nat.min_le_left _ _

theorem capped_le_of_some (n l : Nat) : capped n (some l) ≤ l := Nat.min_le_right _ _

theorem State.target_le_levels (s : State) : s.target ≤ min s.allowedLevel s.wantLevel := by
  unfold State.target
  exact (capped_le_left _ _).trans <| (capped_le_left _ _).trans <| (capped_le_left _ _).trans <|
    capped_le_left _ _

theorem State.target_le_allowedLevel (s : State) : s.target ≤ s.allowedLevel :=
  s.target_le_levels.trans (Nat.min_le_left _ _)

theorem State.target_le_wantLevel (s : State) : s.target ≤ s.wantLevel :=
  s.target_le_levels.trans (Nat.min_le_right _ _)

/-- Where the state limit applies, the target is 0 (R124, R133). -/
theorem State.target_eq_zero_of_stateLimit {s : State} (h : s.stateLimit = some 0) :
    s.target = 0 := by
  unfold State.target
  rw [h]
  exact Nat.le_zero.mp (capped_le_of_some _ _)

/-! ### The parts of a reaction leave the levels alone -/

@[simp] theorem State.follow_lockout (s : State) : s.follow.sense.lockout = s.sense.lockout := by
  unfold State.follow; split_ifs <;> rfl
@[simp] theorem State.follow_sagHold (s : State) : s.follow.sense.sagHold = s.sense.sagHold := by
  unfold State.follow; split_ifs <;> rfl
@[simp] theorem State.restPatience_inhibit (s : State) :
    s.restPatience.demand.inhibit = s.demand.inhibit := by
  unfold State.restPatience; split_ifs <;> rfl
@[simp] theorem State.restPatience_level (s : State) :
    s.restPatience.demand.level = s.demand.level := by
  unfold State.restPatience; split_ifs <;> rfl
@[simp] theorem State.restIdle_power_state (s : State) :
    s.restIdle.power.state = s.power.state := by
  unfold State.restIdle; split_ifs <;> rfl
@[simp] theorem State.restIdle_clockReady (s : State) :
    s.restIdle.power.clockReady = s.power.clockReady := by
  unfold State.restIdle; split_ifs <;> rfl
@[simp] theorem State.restIdle_dormantTimer (s : State) :
    s.restIdle.power.dormantTimer = s.power.dormantTimer := by
  unfold State.restIdle; split_ifs <;> rfl

@[simp] theorem State.follow_allowedLevel (s : State) : s.follow.allowedLevel = s.allowedLevel :=
  State.allowedLevel_congr (by simp) (by simp) (by simp)
@[simp] theorem State.follow_wantLevel (s : State) : s.follow.wantLevel = s.wantLevel :=
  State.wantLevel_congr (by simp) (by simp) (by simp) (by simp)
@[simp] theorem State.follow_target (s : State) : s.follow.target = s.target :=
  State.target_congr (by simp) (by simp) (by simp) (by simp) (by simp) (by simp) (by simp)
@[simp] theorem State.restPatience_allowedLevel (s : State) :
    s.restPatience.allowedLevel = s.allowedLevel :=
  State.allowedLevel_congr (by simp) (by simp) (by simp)
@[simp] theorem State.restPatience_wantLevel (s : State) :
    s.restPatience.wantLevel = s.wantLevel :=
  State.wantLevel_congr (by simp) (by simp) (by simp) (by simp)
@[simp] theorem State.restPatience_target (s : State) : s.restPatience.target = s.target :=
  State.target_congr (by simp) (by simp) (by simp) (by simp) (by simp) (by simp) (by simp)
@[simp] theorem State.restIdle_allowedLevel (s : State) :
    s.restIdle.allowedLevel = s.allowedLevel :=
  State.allowedLevel_congr (by simp) (by simp) (by simp)
@[simp] theorem State.restIdle_wantLevel (s : State) : s.restIdle.wantLevel = s.wantLevel :=
  State.wantLevel_congr (by simp) (by simp) (by simp) (by simp)
@[simp] theorem State.restIdle_target (s : State) : s.restIdle.target = s.target :=
  State.target_congr (by simp) (by simp) (by simp) (by simp) (by simp) (by simp) (by simp)
@[simp] theorem State.react_allowedLevel (s : State) : s.react.allowedLevel = s.allowedLevel := by
  simp [State.react]
@[simp] theorem State.react_wantLevel (s : State) : s.react.wantLevel = s.wantLevel := by
  simp [State.react]
@[simp] theorem State.react_target (s : State) : s.react.target = s.target := by
  simp [State.react]
@[simp] theorem State.react_power_state (s : State) : s.react.power.state = s.power.state := by
  simp [State.react]
@[simp] theorem State.react_clockReady (s : State) :
    s.react.power.clockReady = s.power.clockReady := by
  simp [State.react]
@[simp] theorem State.react_dormantTimer (s : State) :
    s.react.power.dormantTimer = s.power.dormantTimer := by
  simp [State.react]
@[simp] theorem State.react_lockout (s : State) : s.react.sense.lockout = s.sense.lockout := by
  simp [State.react]
@[simp] theorem State.react_sagHold (s : State) : s.react.sense.sagHold = s.sense.sagHold := by
  simp [State.react]

/-! ### What following the target does (R127 to R129) -/

/-- Following the target never leaves the output above it, and never raises it. -/
theorem State.follow_output (s : State) : s.follow.drive.output = min s.drive.output s.target := by
  unfold State.follow
  split_ifs with h h'
  · simp only [State.cutTo_drive]; omega
  · show s.drive.output = _; omega
  · show s.drive.output = _; omega

theorem State.follow_gate (s : State) :
    s.follow.drive.gate = (s.drive.gate && decide (s.drive.output ≤ s.target)) := by
  unfold State.follow
  split_ifs with h h'
  · simp [Nat.not_le.mpr h]
  · simp [Nat.le_of_lt h']
  · simp [Nat.not_lt.mp h]

theorem State.follow_period (s : State) : s.follow.drive.period = s.drive.period := by
  unfold State.follow; split_ifs <;> rfl

theorem State.react_output (s : State) : s.react.drive.output = min s.drive.output s.target := by
  simp [State.react, State.follow_output]

theorem State.react_gate (s : State) :
    s.react.drive.gate = (s.drive.gate && decide (s.drive.output ≤ s.target)) := by
  simp [State.react, State.follow_gate]

theorem State.react_period (s : State) : s.react.drive.period = s.drive.period := by
  simp [State.react, State.follow_period]

theorem State.react_output_le_target (s : State) : s.react.drive.output ≤ s.react.target := by
  rw [State.react_output, State.react_target]; exact Nat.min_le_right _ _

/-- A reaction leaves all of the demand but patience (R111). -/
theorem State.restPatience_demand (s : State) :
    s.restPatience.demand = { s.demand with
      patience := if s.wantLevel ≤ s.allowedLevel then 0 else s.demand.patience } := by
  unfold State.restPatience; split_ifs <;> rfl

theorem State.react_demand (s : State) :
    s.react.demand = { s.demand with
      patience := if s.wantLevel ≤ s.allowedLevel then 0 else s.demand.patience } := by
  simp [State.react, State.restPatience_demand]

/-- A state whose drive already follows its target and whose timers are settled is left as it is. -/
theorem State.follow_of_output_eq {s : State} (h : s.drive.output = s.target)
    (hramp : s.drive.ramp = .stopped) : s.follow = s := by
  unfold State.follow
  rw [if_neg (by omega), if_neg (by omega), ← hramp]

/-! ### The period boundary (R128, R131, R136) -/

@[simp] theorem State.raiseOutput_target (s : State) : s.raiseOutput.target = s.target := rfl

/-- All that a boundary does to the ramp (R128): where the timer is stopped, nothing; where it has not
reached the ramp step, or the target is not above the output level, it runs on; else a raise. -/
theorem State.rampAtBoundary_cases (s : State) (sinceStart : Nat) :
    (s.drive.ramp = .stopped ∧ s.rampAtBoundary sinceStart = s) ∨
    ∃ time, s.drive.ramp.timeAt (periodTime s.cfg.pwmCode) sinceStart = some time ∧
      (s.drive.output < s.target ∧ s.rampStepTime ≤ time ∧
          s.rampAtBoundary sinceStart = s.raiseOutput ∨
        ¬ (s.drive.output < s.target ∧ s.rampStepTime ≤ time) ∧
          s.rampAtBoundary sinceStart =
            { s with drive := { s.drive with ramp := .running time } }) := by
  unfold State.rampAtBoundary
  cases h : s.drive.ramp with
  | stopped => exact .inl ⟨rfl, rfl⟩
  | started =>
    refine .inr ⟨_, rfl, ?_⟩
    simp only [RampTimer.timeAt]
    split_ifs with hc
    · exact .inl ⟨hc.1, hc.2, rfl⟩
    · exact .inr ⟨hc, rfl⟩
  | running time =>
    refine .inr ⟨_, rfl, ?_⟩
    simp only [RampTimer.timeAt]
    split_ifs with hc
    · exact .inl ⟨hc.1, hc.2, rfl⟩
    · exact .inr ⟨hc, rfl⟩

theorem State.rampAtBoundary_output_le (s : State) (sinceStart : Nat) :
    (s.rampAtBoundary sinceStart).drive.output ≤ s.drive.output + 1 := by
  rcases s.rampAtBoundary_cases sinceStart with ⟨_, h⟩ | ⟨_, _, ⟨_, _, h⟩ | ⟨_, h⟩⟩ <;> simp [h]

/-- The ramp never passes the target. -/
theorem State.rampAtBoundary_output_le_target {s : State} (h : s.drive.output ≤ s.target)
    (sinceStart : Nat) : (s.rampAtBoundary sinceStart).drive.output ≤ s.target := by
  rcases s.rampAtBoundary_cases sinceStart with ⟨_, h'⟩ | ⟨_, _, ⟨hlt, _, h'⟩ | ⟨_, h'⟩⟩
  · rw [h']; exact h
  · rw [h']; exact hlt
  · rw [h']; exact h

@[simp] theorem State.boundary_output (s : State) (sinceStart : Nat) :
    (s.boundary sinceStart).drive.output = (s.rampAtBoundary sinceStart).drive.output := by
  unfold State.boundary; simp

@[simp] theorem State.boundary_gate (s : State) (sinceStart : Nat) :
    (s.boundary sinceStart).drive.gate =
      decide (0 < (s.rampAtBoundary sinceStart).drive.output) := by
  unfold State.boundary; simp

@[simp] theorem State.startPeriods_output (s : State) :
    s.startPeriods.drive.output = s.drive.output := by
  unfold State.startPeriods; simp

@[simp] theorem State.scheduleAtBoundary_lockout (s : State) (firstTwenty : Bool) :
    (s.scheduleAtBoundary firstTwenty).sense.lockout = s.sense.lockout := by
  unfold State.scheduleAtBoundary; dsimp only; split_ifs <;> rfl
@[simp] theorem State.scheduleAtBoundary_sagHold (s : State) (firstTwenty : Bool) :
    (s.scheduleAtBoundary firstTwenty).sense.sagHold = s.sense.sagHold := by
  unfold State.scheduleAtBoundary; dsimp only; split_ifs <;> rfl
@[simp] theorem State.boundary_lockout (s : State) (sinceStart : Nat) :
    (s.boundary sinceStart).sense.lockout = s.sense.lockout := by
  simp [State.boundary]
@[simp] theorem State.boundary_sagHold (s : State) (sinceStart : Nat) :
    (s.boundary sinceStart).sense.sagHold = s.sense.sagHold := by
  simp [State.boundary]
@[simp] theorem State.startPeriods_lockout (s : State) :
    s.startPeriods.sense.lockout = s.sense.lockout := by simp [State.startPeriods]
@[simp] theorem State.startPeriods_sagHold (s : State) :
    s.startPeriods.sense.sagHold = s.sense.sagHold := by simp [State.startPeriods]

end Sys2Proof.Machine
end

