-- ==== Sys2Proof/Laws/Line.lean ====
section
/-! SUPPORT. Fields, edge bits, the receive shift state and the run counts: one lemma for what each
reads or writes. -/

namespace Sys2Proof.Machine

/-! ### Fields -/

@[simp] theorem bitsOf_length (w n : Nat) : (bitsOf w n).length = w := by
  induction w with
  | zero => rfl
  | succ w ih => simp [bitsOf, ih]

@[simp] theorem byteBits_length (b : Byte) : (byteBits b).length = 8 := bitsOf_length ..

theorem natOf_foldl (bits : List Bit) (n : Nat) :
    bits.foldl (fun n b => 2 * n + b.toNat) n = n * 2 ^ bits.length + natOf bits := by
  induction bits generalizing n with
  | nil => simp [natOf]
  | cons b bs ih =>
    simp only [List.foldl_cons, List.length_cons, natOf]
    rw [ih, ih (2 * 0 + b.toNat)]
    ring

@[simp] theorem natOf_nil : natOf [] = 0 := rfl

theorem natOf_cons (b : Bit) (bs : List Bit) :
    natOf (b :: bs) = b.toNat * 2 ^ bs.length + natOf bs := by
  simp only [natOf, List.foldl_cons]
  rw [natOf_foldl]
  simp [natOf]

theorem natOf_append (xs ys : List Bit) :
    natOf (xs ++ ys) = natOf xs * 2 ^ ys.length + natOf ys := by
  rw [natOf, List.foldl_append, natOf_foldl]; rfl

theorem natOf_lt (bits : List Bit) : natOf bits < 2 ^ bits.length := by
  induction bits with
  | nil => simp
  | cons b bs ih =>
    rw [natOf_cons, List.length_cons, pow_succ]
    have : b.toNat ≤ 1 := Bool.toNat_le b
    nlinarith [Nat.one_le_two_pow (n := bs.length)]

/-- A field reads back as the number it was written from, as far as its width goes. -/
theorem natOf_bitsOf (w n : Nat) : natOf (bitsOf w n) = n % 2 ^ w := by
  induction w with
  | zero => simp [bitsOf, Nat.mod_one]
  | succ w ih =>
    rw [bitsOf, natOf_cons, ih, bitsOf_length, Nat.pow_succ, Nat.mod_mul, Nat.testBit_eq_decide_div_mod_eq]
    rcases Nat.mod_two_eq_zero_or_one (n / 2 ^ w) with h | h <;> simp [h]
    omega

theorem natOf_bitsOf_of_lt {w n : Nat} (h : n < 2 ^ w) : natOf (bitsOf w n) = n := by
  rw [natOf_bitsOf, Nat.mod_eq_of_lt h]

/-- Eight bits at a time, bytes read back as they were written. -/
theorem bytesOf_byteBits_append (b : Byte) (rest : List Bit) :
    bytesOf (byteBits b ++ rest) = b :: bytesOf rest := by
  have h : natOf (byteBits b) = b.toNat := natOf_bitsOf_of_lt b.isLt
  simp only [byteBits, bitsOf, List.cons_append, List.nil_append] at h ⊢
  rw [bytesOf, h]
  simp

theorem bytesOf_flatMap_byteBits (bytes : List Byte) :
    bytesOf (bytes.flatMap byteBits) = bytes := by
  induction bytes with
  | nil => rfl
  | cons b bs ih => rw [List.flatMap_cons, bytesOf_byteBits_append, ih]

@[simp] theorem flatMap_byteBits_length (bytes : List Byte) :
    (bytes.flatMap byteBits).length = 8 * bytes.length := by
  induction bytes with
  | nil => rfl
  | cons b bs ih => simp [List.flatMap_cons, ih]; omega

/-! ### The frame on the line (R84, R85) -/

theorem frameBits_length (f : Frame) :
    (frameBits f).length = 41 + 8 * (payloadBytes f.payload).length := by
  simp only [frameBits, coveredBits, List.length_cons, List.length_append, bitsOf_length,
    byteBits_length, flatMap_byteBits_length]
  omega

/-- One edge bit for each whole eight frame bits (R85). -/
theorem withEdges_length (n : Nat) (bits : List Bit) :
    (withEdges n bits).length = bits.length + ((n + bits.length) / 8 - n / 8) := by
  induction bits generalizing n with
  | nil => simp [withEdges]
  | cons b bs ih =>
    unfold withEdges
    split_ifs with h
    · simp only [List.length_cons, ih]; omega
    · simp only [List.length_cons, ih]; omega

/-! ### The receive shift state (R85, R86) -/

/-- Bits that bring nothing yet may be read in two parts. -/
theorem readBits_append {r : Rx} {xs : List Bit} (ys : List Bit)
    (h : (readBits r xs).2 = .more) :
    readBits r (xs ++ ys) = readBits (readBits r xs).1 ys := by
  induction xs generalizing r with
  | nil => rfl
  | cons x xs ih =>
    rw [List.cons_append, readBits]
    rw [readBits] at h
    cases hev : r.event x with
    | more =>
      rw [hev] at h
      conv_rhs => rw [readBits, hev]
      exact ih h
    | formatError => simp [hev] at h
    | jam => simp [hev] at h
    | complete f => simp [hev] at h

/-- An edge bit adds no frame bit, and any other adds itself. -/
theorem Rx.take_bits (r : Rx) (b : Bit) :
    (r.take b).bits = if r.edgeDue then r.bits else r.bits ++ [b] := by
  unfold Rx.take; split_ifs <;> rfl

theorem Rx.take_run (r : Rx) (b : Bit) : (r.take b).run = if b then 0 else r.run + 1 := by
  unfold Rx.take; split_ifs <;> rfl

/-! ### Run counts (R86, R88, R92) -/

theorem idleRunAfter_append (run : Nat) (xs ys : List Bit) :
    idleRunAfter run (xs ++ ys) = idleRunAfter (idleRunAfter run xs) ys := List.foldl_append

theorem idleRunAfter_recessive (run n : Nat) :
    idleRunAfter run (List.replicate n recessive) = run + n := by
  induction n generalizing run with
  | zero => rfl
  | succ n ih =>
    rw [List.replicate_succ, idleRunAfter, List.foldl_cons, ← idleRunAfter, ih]
    show run + 1 + n = run + (n + 1)
    omega

/-- A watch whose run reaches ten ends as a jam (R92). -/
theorem watchEnd_jam {run n : Nat} (h : 10 ≤ run + n) :
    watchEnd run (List.replicate n dominant) = .jam := by
  induction n generalizing run with
  | zero => rw [List.replicate_zero, watchEnd, if_pos (by omega)]
  | succ n ih =>
    rw [List.replicate_succ, watchEnd]
    split_ifs with h10
    · rfl
    · contradiction
    · exact ih (by omega)

/-- A watch that meets a recessive bit before ends as an own error (R92). -/
theorem watchEnd_ownError {run n : Nat} (h : run + n < 10) :
    watchEnd run (List.replicate n dominant ++ [recessive]) = .ownError := by
  induction n generalizing run with
  | zero =>
    rw [List.replicate_zero, List.nil_append, watchEnd, if_neg (by omega), if_pos rfl]
  | succ n ih =>
    rw [List.replicate_succ, List.cons_append, watchEnd, if_neg (by omega), if_neg (by decide)]
    exact ih (by omega)

end Sys2Proof.Machine
end

