-- ==== Sys2Proof/Laws/Moves.lean ====
section
/-! SUPPORT. What entering a participation state and the other shared moves write. -/

namespace Sys2Proof.Machine

/-! ### The end of LISTEN (R152) -/

@[simp] theorem State.endListen_power (s : State) :
    s.endListen.power =
      { s.power with
        state := s.power.woken
        dormantTimer := if s.power.state = .listen then 0 else s.power.dormantTimer } := by
  unfold State.endListen PowerControl.woken
  split_ifs with h
  · simp
  · rfl

@[simp] theorem State.endListen_lockout (s : State) :
    s.endListen.sense.lockout = s.sense.lockout := by
  unfold State.endListen; split_ifs <;> simp
@[simp] theorem State.endListen_sagHold (s : State) :
    s.endListen.sense.sagHold = s.sense.sagHold := by
  unfold State.endListen; split_ifs <;> simp

/-! ### GATHER entry (R18, R60) -/

theorem State.enterGather_table (s : State) (stale : Bool) :
    (s.enterGather stale).table = s.table.forGather s.own s.part.evictedInMute := by
  simp [State.enterGather]
theorem State.enterGather_lineCount (s : State) (stale : Bool) :
    (s.enterGather stale).lineCount = none := by simp [State.enterGather]
theorem State.enterGather_part (s : State) (stale : Bool) :
    (s.enterGather stale).part =
      { s.part with
        state := .gather .window, windowTimer := 0, announceTimer := 0
        reannouncePending := false, evictedInMute := false } := by simp [State.enterGather]
theorem State.enterGather_line (s : State) (stale : Bool) :
    (s.enterGather stale).line = { s.line with outbox := Outbox.empty } := by
  simp [State.enterGather]
theorem State.enterGather_demand (s : State) (stale : Bool) :
    (s.enterGather stale).demand = { s.demand with patience := 0 } := by
  simp [State.enterGather]
theorem State.enterGather_monitor (s : State) (stale : Bool) :
    (s.enterGather stale).monitor = (s.raiseIf stale .gather).monitor := by
  simp [State.enterGather]
theorem State.enterGather_lockout (s : State) (stale : Bool) :
    (s.enterGather stale).sense.lockout = s.sense.lockout := by simp [State.enterGather]
theorem State.enterGather_sagHold (s : State) (stale : Bool) :
    (s.enterGather stale).sense.sagHold = s.sense.sagHold := by simp [State.enterGather]
theorem State.enterGather_power_state (s : State) (stale : Bool) :
    (s.enterGather stale).power.state = s.power.woken := by simp [State.enterGather]

/-! ### MUTE entry (R74) -/

theorem State.enterMute_part (s : State) :
    s.enterMute.part =
      { s.part with
        state := .mute, windowTimer := 0, announceTimer := 0, reannouncePending := false } := by
  simp [State.enterMute]
theorem State.enterMute_line (s : State) :
    s.enterMute.line = { s.line with outbox := Outbox.empty } := by simp [State.enterMute]
theorem State.enterMute_demand (s : State) :
    s.enterMute.demand = { s.demand with patience := 0 } := by simp [State.enterMute]
theorem State.enterMute_monitor (s : State) :
    s.enterMute.monitor = { s.monitor with flags := s.monitor.flags.raise .mute } := by
  simp [State.enterMute]
theorem State.enterMute_lockout (s : State) :
    s.enterMute.sense.lockout = s.sense.lockout := by simp [State.enterMute]
theorem State.enterMute_sagHold (s : State) :
    s.enterMute.sense.sagHold = s.sense.sagHold := by simp [State.enterMute]
theorem State.enterMute_power_state (s : State) :
    s.enterMute.power.state = s.power.woken := by simp [State.enterMute]

/-! ### HALTED entry (R77, R103) -/

theorem State.enterHalted_part (s : State) (cause : HaltCause) :
    (s.enterHalted cause).part = { s.part with state := .halted cause, announceTimer := 0 } := by
  simp [State.enterHalted]
theorem State.enterHalted_line (s : State) (cause : HaltCause) :
    (s.enterHalted cause).line = { s.line with outbox := Outbox.empty }.endFrame .off := by
  simp [State.enterHalted]
theorem State.enterHalted_demand (s : State) (cause : HaltCause) :
    (s.enterHalted cause).demand = { s.demand with patience := 0 } := by
  simp [State.enterHalted]
theorem State.enterHalted_monitor (s : State) (cause : HaltCause) :
    (s.enterHalted cause).monitor =
      { s.monitor with flags := s.monitor.flags.raise .halt } := by
  simp [State.enterHalted]
theorem State.enterHalted_lockout (s : State) (cause : HaltCause) :
    (s.enterHalted cause).sense.lockout = s.sense.lockout := by simp [State.enterHalted]
theorem State.enterHalted_sagHold (s : State) (cause : HaltCause) :
    (s.enterHalted cause).sense.sagHold = s.sense.sagHold := by simp [State.enterHalted]
theorem State.enterHalted_power_state (s : State) (cause : HaltCause) :
    (s.enterHalted cause).power.state = s.power.woken := by simp [State.enterHalted]

/-- A station that has halted has the state limit (R124, R133). -/
theorem State.enterHalted_target (s : State) (cause : HaltCause) :
    (s.enterHalted cause).target = 0 :=
  State.target_eq_zero_of_stateLimit (by
    simp [State.stateLimit, State.enterHalted_part, Participation.isHalted])

/-! ### An own error (R100, R101) -/

/-- The line fault count rises by two, and the station enters MUTE or stays as it is. -/
theorem State.ownError_cases (s : State) :
    let counted : State :=
      { s with line := { s.line with faultCount := min 31 (s.line.faultCount + 2) } }
    s.ownError = counted.enterMute ∧ 16 ≤ s.line.faultCount + 2 ∧
        (s.part.state = .active ∨ s.part.state.isGather = true) ∨
      s.ownError = counted ∧
        ¬ ((s.part.state = .active ∨ s.part.state.isGather = true) ∧
          16 ≤ s.line.faultCount + 2) := by
  have hmin : (16 ≤ min 31 (s.line.faultCount + 2)) = (16 ≤ s.line.faultCount + 2) := by
    apply propext; omega
  unfold State.ownError
  dsimp only
  by_cases h : (decide (16 ≤ min 31 (s.line.faultCount + 2)) &&
      (s.part.state == .active || s.part.state.isGather)) = true
  · left
    rw [if_pos h]
    simp only [Bool.and_eq_true, decide_eq_true_eq, Bool.or_eq_true, beq_iff_eq, hmin] at h
    exact ⟨rfl, h.1, h.2⟩
  · right
    rw [if_neg h]
    simp only [Bool.and_eq_true, decide_eq_true_eq, Bool.or_eq_true, beq_iff_eq, hmin] at h
    exact ⟨rfl, fun hc => h ⟨hc.2, hc.1⟩⟩

/-! ### The outbox (R112, R113) -/

theorem State.place_line (s : State) (r : Request) :
    (s.place r).line =
      if s.accepts r = true then { s.line with outbox := s.line.outbox.add r } else s.line := by
  unfold State.place; split_ifs <;> rfl

/-- A placement is refused outside its states and changes nothing (R113). -/
theorem State.place_of_refused {s : State} {r : Request} (h : s.accepts r = false) :
    s.place r = s := by
  unfold State.place; rw [if_neg (by simp [h])]

/-- What a decision places: nothing but a RELEASE or a CLAIM, each only where its condition holds. -/
theorem State.decideDemand_line (s : State) :
    s.decideDemand.line = { s.line with outbox := s.decideDemand.line.outbox } := by
  unfold State.decideDemand State.place
  dsimp only
  split_ifs <;> rfl

end Sys2Proof.Machine
end

