-- ==== Sys2Proof/Laws/Table.lean ====
section
/-! SUPPORT. The named operations over the grant table, one entry at a time, and what they do to the
sum of the holdings. -/

namespace Sys2Proof.Machine

/-! ### One entry at a time -/

@[simp] theorem Table.at_put_self (t : Table) (a : Address) (e : Entry) : (t.put a e).at a = e := by
  simp [Table.at, Table.put]

theorem Table.at_put_of_ne {a b : Address} (h : b ≠ a) (t : Table) (e : Entry) :
    (t.put a e).at b = t.at b := by
  have hv : a.val ≠ b.val := fun hab => h (Fin.ext hab.symm)
  simp [Table.at, Table.put, Vector.getElem_set_ne, hv]

theorem Table.at_put (t : Table) (a b : Address) (e : Entry) :
    (t.put a e).at b = if b = a then e else t.at b := by
  by_cases h : b = a
  · subst h; simp
  · rw [if_neg h, Table.at_put_of_ne h]

@[simp] theorem Table.at_each (t : Table) (f : Address → Entry → Entry) (a : Address) :
    (t.each f).at a = f a (t.at a) := by
  simp [Table.at, Table.each]

@[simp] theorem Table.at_allAbsent (a : Address) :
    Table.allAbsent.at a = Entry.cleared .absent := by
  simp [Table.at, Table.allAbsent]

/-- Two tables with the same entries are the same. -/
theorem Table.ext_at {t u : Table} (h : ∀ a, t.at a = u.at a) : t = u := by
  apply Vector.ext
  intro i hi
  exact h ⟨i, hi⟩

@[simp] theorem Table.put_at_self (t : Table) (a : Address) : t.put a (t.at a) = t :=
  Table.ext_at fun b => by rw [Table.at_put]; split_ifs with h <;> simp [h]

@[simp] theorem mem_addresses (a : Address) : a ∈ addresses := List.mem_finRange a

theorem Table.at_heard (t : Table) (a b : Address) :
    (t.heard a).at b = if b = a then { t.at a with age := 0 } else t.at b := Table.at_put ..

@[simp] theorem Table.at_forgive (t : Table) (x a : Address) :
    (t.forgive x).at a =
      { t.at a with debts := (t.at a).debts.filter fun d => d.creditor != x } := by
  simp [Table.forgive]

@[simp] theorem Table.at_aged (t : Table) (a : Address) :
    t.aged.at a =
      if (t.at a).isPresent then { t.at a with age := min 65535 ((t.at a).age + 1) }
      else t.at a := by
  simp [Table.aged]

@[simp] theorem Table.at_forGather (t : Table) (own a : Address) (evicted : Bool) :
    (t.forGather own evicted).at a =
      if a = own then (if evicted then Entry.cleared .absent else t.at a)
      else Entry.cleared .unknown := by
  simp [Table.forGather]

@[simp] theorem Table.at_closed (t : Table) (a : Address) :
    t.closed.at a =
      if (t.at a).presence = .unknown then Entry.cleared .absent
      else { t.at a with debts :=
        (t.at a).debts.filter fun d => (t.at d.creditor).presence != .unknown } := by
  simp [Table.closed]

/-! ### The sum of the holdings (R11, R22) -/

theorem Table.held_eq_sum (t : Table) : t.held = ∑ a : Address, (t.at a).share := by
  simp [Table.held, addresses, Fin.sum_univ_def]

/-- What replacing one entry does to the sum of the holdings. -/
theorem Table.held_put (t : Table) (a : Address) (e : Entry) :
    (t.put a e).held + (t.at a).share = t.held + e.share := by
  rw [Table.held_eq_sum, Table.held_eq_sum,
    ← Finset.add_sum_erase Finset.univ (fun b => ((t.put a e).at b).share) (Finset.mem_univ a),
    ← Finset.add_sum_erase Finset.univ (fun b => (t.at b).share) (Finset.mem_univ a)]
  have h : ∑ b ∈ Finset.univ.erase a, ((t.put a e).at b).share =
      ∑ b ∈ Finset.univ.erase a, (t.at b).share :=
    Finset.sum_congr rfl fun b hb => by rw [Table.at_put_of_ne (Finset.ne_of_mem_erase hb)]
  rw [h, Table.at_put_self]
  omega

/-- Entries that hold no more leave the sum no greater. -/
theorem Table.held_mono {t u : Table} (h : ∀ a, (u.at a).share ≤ (t.at a).share) :
    u.held ≤ t.held := by
  rw [Table.held_eq_sum, Table.held_eq_sum]
  exact Finset.sum_le_sum fun a _ => h a

theorem Table.held_congr {t u : Table} (h : ∀ a, (u.at a).share = (t.at a).share) :
    u.held = t.held := by
  rw [Table.held_eq_sum, Table.held_eq_sum]
  exact Finset.sum_congr rfl fun a _ => h a

/-- One entry's holding is part of the sum. -/
theorem Table.share_le_held (t : Table) (a : Address) : (t.at a).share ≤ t.held := by
  rw [Table.held_eq_sum]
  exact Finset.single_le_sum (f := fun b => (t.at b).share) (fun _ _ => Nat.zero_le _)
    (Finset.mem_univ a)

@[simp] theorem Entry.share_cleared (p : Presence) : (Entry.cleared p).share = 0 := by
  unfold Entry.share Entry.cleared; split_ifs <;> rfl

@[simp] theorem Table.held_forgive (t : Table) (x : Address) : (t.forgive x).held = t.held :=
  Table.held_congr fun a => by simp [Entry.share, Entry.isPresent]

@[simp] theorem Table.held_heard (t : Table) (a : Address) : (t.heard a).held = t.held :=
  Table.held_congr fun b => by
    rw [Table.at_heard]; split_ifs with h
    · subst h; rfl
    · rfl

@[simp] theorem Table.held_aged (t : Table) : t.aged.held = t.held :=
  Table.held_congr fun a => by
    rw [Table.at_aged]; split_ifs <;> rfl

/-! ### Shed depth (R12) -/

theorem Table.shedDepth_eq_sum (t : Table) (a : Address) :
    t.shedDepth a = ∑ x : Address, (t.at x).naming a := by
  simp [Table.shedDepth, addresses, Fin.sum_univ_def]

/-- What replacing one entry does to a shed depth. -/
theorem Table.shedDepth_put (t : Table) (a x : Address) (e : Entry) :
    (t.put a e).shedDepth x + (t.at a).naming x = t.shedDepth x + e.naming x := by
  rw [Table.shedDepth_eq_sum, Table.shedDepth_eq_sum,
    ← Finset.add_sum_erase Finset.univ (fun b => ((t.put a e).at b).naming x)
      (Finset.mem_univ a),
    ← Finset.add_sum_erase Finset.univ (fun b => (t.at b).naming x) (Finset.mem_univ a)]
  have h : ∑ b ∈ Finset.univ.erase a, ((t.put a e).at b).naming x =
      ∑ b ∈ Finset.univ.erase a, (t.at b).naming x :=
    Finset.sum_congr rfl fun b hb => by rw [Table.at_put_of_ne (Finset.ne_of_mem_erase hb)]
  rw [h, Table.at_put_self]
  omega

/-- Entries that name a station no more often leave its shed depth no greater. -/
theorem Table.shedDepth_mono {t u : Table} {x : Address}
    (h : ∀ a, (u.at a).naming x ≤ (t.at a).naming x) : u.shedDepth x ≤ t.shedDepth x := by
  rw [Table.shedDepth_eq_sum, Table.shedDepth_eq_sum]
  exact Finset.sum_le_sum fun a _ => h a

/-! ### Debt stacks (R5 to R7) -/

@[simp] theorem owed_nil : owed [] = 0 := rfl
@[simp] theorem owed_cons (d : DebtRecord) (ds : List DebtRecord) :
    owed (d :: ds) = d.units + owed ds := by simp [owed]
@[simp] theorem owed_append (xs ys : List DebtRecord) : owed (xs ++ ys) = owed xs + owed ys := by
  simp [owed]
@[simp] theorem owed_reverse (xs : List DebtRecord) : owed xs.reverse = owed xs := by
  simp [owed, List.sum_reverse]

theorem owed_trimBy (n : Nat) (ds : List DebtRecord) : owed (trimBy n ds) = owed ds - n := by
  induction ds generalizing n with
  | nil => simp [trimBy]
  | cons d ds ih =>
    unfold trimBy
    split_ifs with h
    · rw [ih, owed_cons]; omega
    · simp only [owed_cons]; omega

theorem trimBy_length_le (n : Nat) (ds : List DebtRecord) :
    (trimBy n ds).length ≤ ds.length := by
  induction ds generalizing n with
  | nil => simp [trimBy]
  | cons d ds ih =>
    unfold trimBy
    split_ifs with h
    · exact (ih _).trans (Nat.le_succ _)
    · simp

/-- Trimming drops records and reduces at most one, which keeps some of its units: it names nobody
new and leaves no record of zero units. -/
theorem exists_of_mem_trimBy {n : Nat} {ds : List DebtRecord} {x : DebtRecord}
    (h : x ∈ trimBy n ds) : ∃ d ∈ ds, x.creditor = d.creditor ∧ x.units ≤ d.units ∧
      (1 ≤ d.units → 1 ≤ x.units) := by
  induction ds generalizing n with
  | nil => simp [trimBy] at h
  | cons d ds ih =>
    unfold trimBy at h
    split_ifs at h with hn
    · obtain ⟨y, hy, hxy⟩ := ih h
      exact ⟨y, List.mem_cons_of_mem _ hy, hxy⟩
    · rcases List.mem_cons.mp h with rfl | hx
      · refine ⟨d, List.mem_cons_self, rfl, ?_, ?_⟩ <;> simp only <;> omega
      · exact ⟨x, List.mem_cons_of_mem _ hx, rfl, le_rfl, id⟩

/-- Trimming leaves a stack that owes no more than the holding (R7). -/
theorem owed_trimTo_le (holding : Nat) (ds : List DebtRecord) :
    owed (trimTo holding ds) ≤ holding := by
  unfold trimTo
  split_ifs with h
  · exact h
  · rw [owed_trimBy]; omega

theorem trimTo_length_le (holding : Nat) (ds : List DebtRecord) :
    (trimTo holding ds).length ≤ ds.length := by
  unfold trimTo
  split_ifs
  · exact le_rfl
  · exact trimBy_length_le _ _

/-- A push changes the owner's stack alone (R5). -/
theorem Table.at_push_of_ne {a owner : Address} (h : a ≠ owner) (t : Table) (creditor : Address)
    (units : Nat) : (t.push owner creditor units).at a = t.at a := by
  unfold Table.push
  split_ifs
  · exact Table.at_put_of_ne h _ _
  · rfl

theorem Table.at_push_self (t : Table) (owner creditor : Address) (units : Nat) :
    (t.push owner creditor units).at owner =
      if t.pushMade owner creditor units then
        { t.at owner with
          debts := (t.at owner).debts.drop ((t.at owner).debts.length - 3) ++
            [{ creditor := creditor, units := units }] }
      else t.at owner := by
  unfold Table.push
  split_ifs <;> simp

@[simp] theorem Table.held_push (t : Table) (owner creditor : Address) (units : Nat) :
    (t.push owner creditor units).held = t.held :=
  Table.held_congr fun a => by
    by_cases h : a = owner
    · subst h
      rw [Table.at_push_self]; split_ifs <;> rfl
    · rw [Table.at_push_of_ne h]

/-! ### The walk of a settlement (R34) -/

/-- The walk settles the lesser of the amount and the debts. -/
theorem walk_settled (keepOut : Option Address) (t : Table) (n : Nat) (ds : List DebtRecord) :
    ((walk keepOut t n ds).list.map (·.settled)).sum = min n (owed ds) := by
  induction ds generalizing t n with
  | nil => simp [walk]
  | cons d ds ih =>
    unfold walk
    split_ifs with h
    · simp [h]
    · simp only [List.map_cons, List.sum_cons, ih, owed_cons]
      omega

/-- What the walk leaves in the stack owes the rest. -/
theorem walk_left_owed (keepOut : Option Address) (t : Table) (n : Nat) (ds : List DebtRecord) :
    owed (walk keepOut t n ds).left = owed ds - n := by
  induction ds generalizing t n with
  | nil => simp [walk]
  | cons d ds ih =>
    unfold walk
    split_ifs with h
    · simp [h]
    · dsimp only
      by_cases hd : d.units = min d.units n
      · rw [if_pos hd, ih, owed_cons]; omega
      · rw [if_neg hd]; simp only [owed_cons, ih]; omega

/-- The walk gives no more than it settles. -/
theorem walk_given_le (keepOut : Option Address) (t : Table) (n : Nat) (ds : List DebtRecord) :
    ∀ x ∈ (walk keepOut t n ds).list, x.given ≤ x.settled := by
  induction ds generalizing t n with
  | nil => simp [walk]
  | cons d ds ih =>
    unfold walk
    split_ifs with h
    · simp
    · intro x hx
      rcases List.mem_cons.mp hx with rfl | hx
      · exact Nat.min_le_left _ _
      · exact ih _ _ x hx

/-- The walk raises holdings and changes nothing else of an entry. -/
theorem walk_table_at (keepOut : Option Address) (t : Table) (n : Nat) (ds : List DebtRecord)
    (a : Address) : ∃ h, (t.at a).holding ≤ h ∧
      (walk keepOut t n ds).table.at a = { t.at a with holding := h } := by
  induction ds generalizing t n with
  | nil => exact ⟨_, le_rfl, rfl⟩
  | cons d ds ih =>
    unfold walk
    split_ifs with h
    · exact ⟨_, le_rfl, rfl⟩
    · dsimp only
      split_ifs with hg
      · exact ih t _
      · obtain ⟨k, hk, hat⟩ := ih
          (t.give d.creditor (min (min d.units n) (t.room keepOut d.creditor)))
          (n - min d.units n)
        rw [hat]
        by_cases hc : a = d.creditor
        · subst hc
          simp only [Table.give, Table.at_put_self] at hk ⊢
          exact ⟨k, by omega, rfl⟩
        · rw [Table.give, Table.at_put_of_ne hc] at hk ⊢
          exact ⟨k, hk, rfl⟩

/-- The walk raises each holding by what its settlement list gives there, and changes nothing else. -/
theorem walk_table_at_given (keepOut : Option Address) (t : Table) (n : Nat)
    (ds : List DebtRecord) (a : Address) :
    (walk keepOut t n ds).table.at a =
      { t.at a with holding := (t.at a).holding +
          (((walk keepOut t n ds).list.filter fun x => x.creditor == a).map (·.given)).sum } := by
  induction ds generalizing t n with
  | nil => simp [walk]
  | cons d ds ih =>
    unfold walk
    split_ifs with h
    · simp
    · dsimp only
      rw [ih]
      generalize walk keepOut _ _ ds = w
      by_cases hd : d.creditor = a
      · subst hd
        split_ifs with hg
        · simp [hg]
        · simp [Table.give, Nat.add_assoc]
      · have ha : a ≠ d.creditor := fun h => hd h.symm
        have hgive : ∀ g, (t.give d.creditor g).at a = t.at a := fun g =>
          Table.at_put_of_ne ha _ _
        split_ifs <;> simp [hd, hgive]

/-- The walk adds to the sum of the holdings no more than it settles. -/
theorem walk_held_le (keepOut : Option Address) (t : Table) (n : Nat) (ds : List DebtRecord) :
    (walk keepOut t n ds).table.held ≤ t.held + min n (owed ds) := by
  induction ds generalizing t n with
  | nil => simp [walk]
  | cons d ds ih =>
    unfold walk
    split_ifs with h
    · simp
    · dsimp only
      split_ifs with hg
      · refine (ih t _).trans ?_
        rw [owed_cons]; omega
      · refine (ih _ _).trans ?_
        have hput := t.held_put d.creditor { t.at d.creditor with
          holding := (t.at d.creditor).holding +
            min (min d.units n) (t.room keepOut d.creditor) }
        have hshare : ∀ k, Entry.share { t.at d.creditor with
            holding := (t.at d.creditor).holding + k } ≤ (t.at d.creditor).share + k := by
          intro k
          unfold Entry.share Entry.isPresent
          dsimp only
          split_ifs <;> omega
        have hle := hshare (min (min d.units n) (t.room keepOut d.creditor))
        rw [Table.give, owed_cons]
        omega

/-! ### RELEASE in GATHER (R63) -/

/-- An entry whose creditor no record that is not yet reduced names is passed over. -/
theorem reduceNewest_of_none {c : Address} {records : List (DebtRecord × Bool)}
    (h : ∀ x ∈ records, x.1.creditor = c → x.2 = true) (settled : Nat) :
    reduceNewest c settled records = records := by
  induction records with
  | nil => rfl
  | cons x xs ih =>
    obtain ⟨d, done⟩ := x
    have hx : ¬ (d.creditor = c ∧ done = false) := fun ⟨hc, hd⟩ =>
      absurd ((h (d, done) List.mem_cons_self hc).symm.trans hd) (by decide)
    rw [reduceNewest, if_neg hx, ih fun y hy => h y (List.mem_cons_of_mem _ hy)]

/-- A gift of a RELEASE met in GATHER raises one PRESENT entry other than the own one (R63). -/
theorem Table.at_gatherGift (own : Address) (t : Table) (x : Settlement) (a : Address) :
    (t.gatherGift own x).at a =
      if a = x.creditor ∧ (t.at a).isPresent = true ∧ a ≠ own then
        { t.at a with holding := (t.at a).holding + x.given }
      else t.at a := by
  unfold Table.gatherGift Table.give
  by_cases ha : a = x.creditor
  · subst ha
    split_ifs with h h' h'
    · simp
    · simp_all
    · simp_all
    · rfl
  · have hnot : ¬ (a = x.creditor ∧ (t.at a).isPresent = true ∧ a ≠ own) := fun h => ha h.1
    rw [if_neg hnot]
    split_ifs
    · exact Table.at_put_of_ne ha _ _
    · rfl

/-! ### EVICT (R38) -/

theorem Table.evict_of_absent {t : Table} {x : Address} (h : (t.at x).presence = .absent)
    (keepOut : Option Address) : t.evict keepOut x = t := by
  unfold Table.evict; rw [h]

/-- A named address that was not ABSENT is cleared ABSENT. -/
theorem Table.evict_at_self {t : Table} {x : Address} (h : (t.at x).presence ≠ .absent)
    (keepOut : Option Address) : (t.evict keepOut x).at x = Entry.cleared .absent := by
  unfold Table.evict
  split
  · simp
  · simp
  · contradiction

end Sys2Proof.Machine
end

