-- ==== Sys2Proof/Laws/TwoWire.lean ====
section
/-! SUPPORT. What the conditions, bits and bytes of the two-wire port say, read from its levels. -/

namespace Sys2Proof.Machine

theorem portEvents_append (p : PortLevels) (xs ys : List PortLevels) :
    portEvents p (xs ++ ys) = portEvents p xs ++ portEvents (xs.getLastD p) ys := by
  induction xs generalizing p with
  | nil => rfl
  | cons x xs ih =>
    rw [List.cons_append, portEvents, portEvents, ih, List.append_assoc, List.getLastD_cons]

/-! ### Bits -/

/-- A clocked bit is one rise of SCL, and leaves SCL low. -/
theorem portEvents_clockedBit {p : PortLevels} (hp : p.scl = false) (station memory : Bit) :
    portEvents p (clockedBit station memory) = [.rise station memory] := by
  simp [clockedBit, portEvents, PortLevels.event, PortLevels.sda, hp]

@[simp] theorem clockedBit_last (p : PortLevels) (station memory : Bit) :
    (clockedBit station memory).getLastD p =
      { scl := false, station := station, memory := memory } := rfl

/-- Bits from one side, one after the other, and any levels after them that begin from a low SCL. -/
theorem portEvents_bits_append (drive : Bit → Bit × Bit) (bits : List Bit) (ys : List PortLevels)
    (events : List PortEvent)
    (hys : ∀ q : PortLevels, q.scl = false → portEvents q ys = events) {p : PortLevels}
    (hp : p.scl = false) :
    portEvents p (bits.flatMap (fun v => clockedBit (drive v).1 (drive v).2) ++ ys) =
      bits.map (fun v => .rise (drive v).1 (drive v).2) ++ events := by
  induction bits generalizing p with
  | nil => exact hys p hp
  | cons v vs ih =>
    rw [List.flatMap_cons, List.append_assoc, portEvents_append, portEvents_clockedBit hp,
      clockedBit_last, ih rfl, List.map_cons]
    rfl

/-! ### Bytes and conditions -/

theorem portEvents_sentByte_append (b : Byte) (acknowledged : Bool) (ys : List PortLevels)
    (events : List PortEvent)
    (hys : ∀ q : PortLevels, q.scl = false → portEvents q ys = events) {p : PortLevels}
    (hp : p.scl = false) :
    portEvents p (sentByte b acknowledged ++ ys) = byteEvents true b acknowledged ++ events := by
  rw [sentByte, List.append_assoc,
    portEvents_bits_append (fun v => (v, true)) _ _ (.rise true (!acknowledged) :: events) _ hp]
  · simp [byteEvents]
  · intro q hq
    rw [portEvents_append, portEvents_clockedBit hq, clockedBit_last, hys _ rfl]
    rfl

theorem portEvents_readByte_append (b : Byte) (acknowledged : Bool) (ys : List PortLevels)
    (events : List PortEvent)
    (hys : ∀ q : PortLevels, q.scl = false → portEvents q ys = events) {p : PortLevels}
    (hp : p.scl = false) :
    portEvents p (readByte b acknowledged ++ ys) = byteEvents false b acknowledged ++ events := by
  rw [readByte, List.append_assoc,
    portEvents_bits_append (fun v => (true, v)) _ _ (.rise (!acknowledged) true :: events) _ hp]
  · simp [byteEvents]
  · intro q hq
    rw [portEvents_append, portEvents_clockedBit hq, clockedBit_last, hys _ rfl]
    rfl

/-- A stop condition, from a low SCL. -/
theorem portEvents_stopCondition {p : PortLevels} (hp : p.scl = false) :
    portEvents p stopCondition = [.rise false true, .stop] := by
  simp [stopCondition, portEvents, PortLevels.event, PortLevels.sda, PortLevels.released, hp]

/-- A repeated start condition, from a low SCL, and levels that begin from a low SCL after it. -/
theorem portEvents_repeatedStart_append (ys : List PortLevels) (events : List PortEvent)
    (hys : ∀ q : PortLevels, q.scl = false → portEvents q ys = events) {p : PortLevels}
    (hp : p.scl = false) :
    portEvents p (repeatedStart ++ ys) = .rise true true :: .start :: events := by
  rw [portEvents_append,
    show repeatedStart.getLastD p = { scl := false, station := false, memory := true } from rfl,
    hys _ rfl]
  simp [repeatedStart, startCondition, portEvents, PortLevels.event, PortLevels.sda,
    PortLevels.released, hp]

/-- The data bytes of an attempt: all but the last are acknowledged (R160). -/
theorem portEvents_dataPhase_append (image : List Byte) (ys : List PortLevels)
    (events : List PortEvent)
    (hys : ∀ q : PortLevels, q.scl = false → portEvents q ys = events) {p : PortLevels}
    (hp : p.scl = false) :
    portEvents p (dataPhase image ++ ys) =
      image.dropLast.flatMap (fun b => byteEvents false b true) ++
        (image.drop (image.length - 1)).flatMap (fun b => byteEvents false b false) ++
        events := by
  induction image generalizing p with
  | nil => exact hys p hp
  | cons b bs ih =>
    cases bs with
    | nil =>
      rw [show dataPhase [b] = readByte b false ++ [] from rfl, List.append_nil,
        portEvents_readByte_append b false ys events hys hp]
      simp
    | cons c cs =>
      rw [show dataPhase (b :: c :: cs) = readByte b true ++ dataPhase (c :: cs) from rfl,
        List.append_assoc,
        portEvents_readByte_append b true _ _ (fun q hq => ih hq) hp]
      simp

end Sys2Proof.Machine
end

