-- ==== Sys2Proof/Tests/Slice0.lean ====
section
/-! SUPPORT. Tests: commands that the well-formedness check refuses, worked examples of the spec, and
for every statement of Obligations.lean a state and operands that meet its hypotheses. -/

namespace Sys2Proof.Tests
open Sys2Proof.Machine

-- One theorem at a time: the kernel evaluations would otherwise each hold a thread.
set_option Elab.async false

/-! ### Well-formedness -/

theorem test_wf_refuses_short_image :
    (Instr.attemptComplete (List.replicate 119 false)).wf = false := by decide
theorem test_wf_refuses_long_period : (Instr.periodBoundary 8001).wf = false := by decide
theorem test_wf_refuses_ten_idle_bits :
    (Instr.busIdle (List.replicate 10 recessive)).wf = false := by decide
theorem test_wf_refuses_no_bits_lost : (Instr.arbitrationLost []).wf = false := by decide
theorem test_wf_refuses_no_bits_wrong : (Instr.bitError []).wf = false := by decide
theorem test_wf_refuses_known_byte : (Instr.unknownCommand 0x13 none).wf = false := by decide
theorem test_wf_refuses_entry_of_31 : (Instr.unknownCommand 0x12 (some 31)).wf = false := by
  decide
theorem test_wf_admits_entry_of_32 : (Instr.unknownCommand 0x12 (some 32)).wf = true := by
  decide

/-! ### A small station -/

/-- The configuration image of the start-up example (9.7). -/
def image : List Byte :=
  [0x6C, 40, 0x63, 1, 0x0A, 50, 20, 50, 25, 180, 20, 5, 3, 10, 0xA6]

def settings : Settings := decodeImage image

def entry (cls : StationClass) (floor want holding : Nat) (debts : List DebtRecord) (age : Nat) :
    Entry :=
  { presence := .present, cls := cls, floor := floor, want := want, holding := holding
    debts := debts, age := age }

/-- S5 (class 0), S9 (class 1, owing S5) and S12 (class 2): 34 units held on a budget of 40. -/
def table : Table :=
  ((Table.allAbsent.put 5 (entry 0 4 24 18 [] 0)).put 9
    (entry 1 3 12 12 [{ creditor := 5, units := 6 }] 2)).put 12 (entry 2 4 8 4 [] 7)

/-- S9, ACTIVE, at level 4 as it wants. -/
def active : State :=
  { State.reset with
    loader := { Loader.reset with
      straps := { address := 9, cls := 1, sampled := true }, image := image, attempts := 1
      status := .settled }
    config := some settings
    table := table
    lineCount := some 41
    line := { LineInterface.reset with position := .ready }
    part := { ParticipationUnit.reset with state := .active, horizon := .counting 3 }
    demand := { level := 4, lastSample := 4, sameCount := 3, inhibit := false, highCount := 3
                patience := 0 }
    drive := { output := 4, ramp := .stopped, period := some { onTime := 1333, elapsed := 0 }
               gate := true }
    sense := { SenseUnit.reset with converter := .idle, schedule := 1, limit := some 700 }
    power := { PowerControl.reset with clockReady := true } }

def wanting (level : DemandLevel) (s : State) : State :=
  { s with demand := { s.demand with level := level } }

def inState (p : Participation) (s : State) : State := { s with part := { s.part with state := p } }

def inPower (p : PowerState) (s : State) : State := { s with power := { s.power with state := p } }

def atPosition (p : LinePosition) (s : State) : State :=
  { s with line := { s.line with position := p } }

/-- The station receives a frame from its SOF on. -/
def receivingIn (s : State) : State := s.becomeReceiver

/-- The station has received a frame to its slots. -/
def received (f : Frame) (verdict : Option Verdict) (s : State) : State :=
  { s with line := { s.line with
      position := .frame, role := .receiver, received := some f, verdict := verdict } }

/-- The station sends an own frame. -/
def sends (k : FrameKind) (s : State) : State := s.sendFrame k

def withOutbox (o : Outbox) (s : State) : State := { s with line := { s.line with outbox := o } }

def withFault (n : Nat) (s : State) : State := { s with line := { s.line with faultCount := n } }

def queued (c : Instr) (s : State) : State := { s with pending := [c] }

/-- An outcome is a next state of which `p` holds. -/
def nextIs (o : Host.Outcome State Fault Refusal) (p : State → Bool) : Bool :=
  match o with
  | .next t => p t
  | .fault _ => false
  | .refused _ => false

/-- The states an own claim, release or announce is valid in, and the frames that S12 and S9 send. -/
def eager : State := wanting 6 active
def sated : State := wanting 2 active
def starting : State :=
  { State.reset with
    loader := { Loader.reset with
      straps := { address := 9, cls := 1, sampled := true }, attempts := 1, status := .reading
      port := .attempt }
    power := { PowerControl.reset with clockReady := true } }
def muted : State := inState .mute active
def gathering : State := inState (.gather .window) { active with lineCount := none }
def rejoining : State :=
  withOutbox { Outbox.empty with announce := some .rejoin }
    (inState (.gather .rejoin) { active with table := table.put 9 (Entry.cleared .absent) })
def restTable : Table :=
  (Table.allAbsent.put 5 (entry 0 4 24 18 [] 0)).put 9 (entry 1 3 0 0 [] 2)
def resting : State :=
  inPower .listen { wanting 0 active with
    table := restTable
    drive := LoadDrive.reset
    sense := SenseUnit.reset }
def idling : State := inPower .run resting

/-- Frame 42 of S12: 22 units, six from free, fourteen from S5, two from S9. -/
def claim : Frame :=
  { rank := 1, wait := 3, sender := 12, lineCount := 42
    payload := .claim 30 22 [{ victim := 5, units := 14 }, { victim := 9, units := 2 }] }
/-- A claim that takes four units from free. -/
def smallClaim : Frame := { claim with payload := .claim 8 4 [] }
def evict : Frame := { claim with payload := .evict [9] }
def sag : Frame := { claim with payload := .sag }
def plain (f : Nat) : Frame := { claim with payload := .announce false f 8 4 [] }
/-- S5 owes S9 and releases. -/
def owingTable : Table :=
  (table.put 5 (entry 0 4 24 18 [{ creditor := 9, units := 5 }] 0)).put 9 (entry 1 3 18 12 [] 2)
def owing : State := { eager with table := owingTable }
def repay : Frame :=
  { rank := 3, wait := 3, sender := 5, lineCount := 42
    payload := .release 14 4 [{ creditor := 9, settled := 4, given := 4 }] }

/-! ### Worked examples of the spec -/

/-- Frame 42 of 2.10: its payload as 11.1 writes it out, and its line bits read back. -/
def frame42 : Frame :=
  { rank := 0, wait := 3, sender := 12, lineCount := 42
    payload := .claim 12 12 [{ victim := 5, units := 8 }, { victim := 9, units := 4 }] }
theorem test_frame42_payload :
    payloadBytes frame42.payload = [12, 12, 2, 5, 8, 9, 4] := by decide
theorem test_frame42_is_read_back :
    (readBits Rx.start (lineBits frame42)).2 = .complete frame42 := by decide +kernel
theorem test_claim_applied :
    let u := table.applyClaim 12 30 22 [{ victim := 5, units := 14 }, { victim := 9, units := 2 }]
    (u.at 5).holding = 4 ∧ (u.at 9).holding = 10 ∧ (u.at 12).holding = 26 ∧
      (u.at 12).debts = [{ creditor := 5, units := 14 }, { creditor := 9, units := 2 }] := by
  decide +kernel
theorem test_shed_cuts_the_output :
    nextIs (exec (.frameConfirmed dominant) (received claim (some .agree) active))
      (fun t => t.drive.output == 3 && t.monitor.flags.shed && t.line.outbox.claim) = true := by
  decide +kernel
/-- The start-up of 9.7: an attempt that completes settles the configuration. -/
theorem test_image_settles :
    nextIs (exec (.attemptComplete (image.flatMap byteBits)) starting)
      (fun t => t.config == some settings && t.line.position == .seek) = true := by decide +kernel
/-- R160: a complete attempt has 162 clocked bits, beside the rises of SCL in its repeated start and its
stop condition. -/
theorem test_attempt_is_162_bits :
    ((portEvents { scl := false, station := false, memory := true }
        (addressPhase ++ dataPhase image ++ stopCondition)).filter fun e =>
      e != .start && e != .stop).length = 162 + 2 := by decide +kernel
theorem test_settings :
    settings.budget = 40 ∧ settings.maxLevel = 6 ∧ settings.unitsPerLevel = 3 ∧
      settings.pwmCode = 2 ∧ settings.rateCode = 2 ∧ settings.announcePeriod = 50 := by decide
theorem test_events_reads_and_clears :
    nextIs (exec .ncsFall (active.raise .sag)) (fun s =>
      nextIs (exec .events s) (fun t => !t.monitor.flags.any && t.monitor.snapshot == [0x08])) =
        true := by decide +kernel

/-! ### The hypotheses of the statements are met -/

theorem witness_StepTakesTheFrontCommand : (queued .tick active).pending = .tick :: [] := rfl

theorem witness_ResetHoldsTheStationAndEnds :
    active.rst.inForce = false ∧
      (active.resetBlocks { inForce := true, cause := .pin }).rst.inForce = true := by decide

/-- Nothing attempted yet, and three attempts already counted. -/
theorem witness_ClockReadyBeginsTheLoad :
    let s := State.reset
    let late : State := { s with loader := { s.loader with attempts := 3 } }
    (s.rst.inForce = false ∧ s.power.clockReady = false ∧ s.loader.status = .waiting ∧
      s.loader.attempts + 1 < 4) ∧
    (late.rst.inForce = false ∧ late.power.clockReady = false ∧ late.loader.status = .waiting ∧
      4 ≤ late.loader.attempts + 1) := by decide

/-- The waits and the attempts at which the counts meet: two and three attempts made, and four. -/
def tried (n : Nat) (port : PortPhase) : State :=
  { starting with loader := { starting.loader with attempts := n, port := port } }
theorem witness_AttemptsAreRetriedUntilTheFourth :
    ((tried 2 .retryWait).clocked = true ∧ (tried 2 .retryWait).loader.status = .reading ∧
      (tried 2 .retryWait).loader.port = .retryWait ∧
      (tried 2 .retryWait).loader.attempts + 1 < 4 ∧
      4 ≤ (tried 3 .retryWait).loader.attempts + 1) ∧
    ((tried 3 .attempt).clocked = true ∧ (tried 3 .attempt).loader.port = .attempt ∧
      (tried 3 .attempt).loader.attempts < 4 ∧ 4 ≤ (tried 4 .attempt).loader.attempts) := by decide

theorem witness_ImagePassesExactlyItsChecks : image.length = 15 := by decide

theorem starting_loadLaw : LoadLaw starting :=
  ⟨fun _ => by decide +kernel, fun h => absurd h (by decide), fun _ h => nomatch h⟩

theorem witness_CompletedAttemptSettlesOrHalts :
    LoadLaw starting ∧ starting.clocked = true ∧ starting.loader.status = .reading ∧
      starting.loader.port = .attempt ∧ imagePasses image = true ∧
      imagePasses (List.replicate 15 0) = false :=
  ⟨starting_loadLaw, by decide, by decide, by decide, by decide +kernel, by decide +kernel⟩

theorem witness_BusIdleMakesTheLineReady :
    ((atPosition .seek active).clocked = true ∧ (atPosition .seek active).line.position = .seek ∧
      (atPosition .seek active).part.state ≠ .start) ∧
    (atPosition .seek (inState .start active)).part.state = .start := by decide

theorem witness_LinePositionMoves :
    active.clocked = true ∧ active.line.position = .ready ∧
      (atPosition .tail active).line.position = .tail ∧
      (atPosition .jam active).line.position = .jam := by decide

/-- A RELEASE that is not valid before a CLAIM that is, and nothing valid at all. -/
theorem witness_StartOpportunityTestsTheOutboxInOrder :
    let s := withOutbox { Outbox.empty with release := true, claim := true } eager
    let r := withOutbox { Outbox.empty with release := true } eager
    (s.clocked = true ∧ s.line.position = .ready ∧ s.mayTransmit = true ∧
      s.line.outbox.has .claim = true ∧ s.valid .claim = true ∧
      s.line.outbox.has .release = true ∧ s.valid .release = false ∧
      s.line.outbox.sag = false ∧ s.line.outbox.evict = false) ∧
    (r.mayTransmit = true ∧ r.line.outbox = { Outbox.empty with release := true } ∧
      r.valid .release = false) ∧ muted.mayTransmit = false := by decide +kernel

/-- The level at the target and a target that the room does not raise. -/
theorem witness_ClaimIsSizedByTheLargestCoveredLevel :
    (eager.targetLevel = 6 ∧ 6 ≤ eager.wantLevel ∧
      6 * eager.cfg.unitsPerLevel - eager.ownHolding ≤
        eager.table.free eager.cfg.budget + eager.table.sheddable eager.own 1) ∧
    (active.targetLevel ≤ active.allowedLevel ∧ active.clocked = true ∧
      active.line.position = .ready ∧ active.mayTransmit = true ∧
      (withOutbox { Outbox.empty with claim := true } active).line.outbox.claim = true) := by
  decide +kernel

theorem witness_OwnFrameFollowsFromTheOwnTable :
    (eager.config = some settings ∧ rangesPass settings = true ∧ eager.lineCount = some 41 ∧
      eager.part.state = .active ∧ eager.valid .claim = true ∧
      eager.ownEntry.cls = eager.loader.straps.cls ∧ eager.ownEntry.floor = eager.floorUnits) ∧
    sated.valid .release = true := by decide +kernel

/-- Five silent peers, of which four are listed. -/
def silentTable : Table :=
  ((((Table.allAbsent.put 1 (entry 0 0 0 0 [] 150)).put 2 (entry 0 0 0 0 [] 151)).put 3
    (entry 0 0 0 0 [] 150)).put 4 (entry 0 0 0 0 [] 160)).put 5 (entry 0 0 0 0 [] 150)
theorem witness_OwnFrameContent :
    (active.lineCount = some 41 ∧ rejoining.line.outbox.announce = some .rejoin ∧
      (withOutbox { Outbox.empty with announce := some .plain } active).line.outbox.announce =
        some .plain) ∧
    silentTable.evictList 9 150 = [4, 2, 1, 3] ∧ (silentTable.at 5).presence = .present ∧
      150 ≤ (silentTable.at 5).age := by decide +kernel

/-- Line bit 2 is sent recessive in the identifier, bit 0 dominant, bit 16 recessive
past the identifier, and a watch stands one bit short of ten. -/
def sender : State := sends .claim eager
def watching (n : Nat) : State :=
  { active with line := { active.line with
      position := .frame, role := .watching, rx := { Rx.start with run := n } } }
theorem witness_SenderReadsBackItsBits :
    (sender.sending = true ∧ sender.line.txBits[2]? = some recessive ∧
      isIdentifierBit 2 = true ∧ sender.line.txBits[0]? = some dominant ∧
      sender.line.txBits[16]? = some recessive ∧ isIdentifierBit 16 = false) ∧
    ((watching 4).clocked = true ∧ (watching 4).line.position = .frame ∧
      (watching 4).line.role = .watching ∧ (watching 4).line.rx.run + 5 < 10 ∧
      10 ≤ (watching 4).line.rx.run + 6) := by decide +kernel

/-- Before the last CRC bit of a SAG, with and without a pending violation, and with a wrong bit to come. -/
theorem witness_ReceiverFindsEdgeBitViolations :
    let nine : Rx := { Rx.start with run := 9 }
    let due : Rx := { Rx.start with edgeDue := true }
    let low : Rx := { Rx.start with edgeDue := true, last := dominant, run := 8 }
    let bits := frameBits sag
    let atEnd : Rx := { Rx.start with bits := bits.dropLast }
    let last := bits.getLastD dominant
    (9 ≤ nine.run ∧ due.last = recessive ∧
      (low.edgeDue = true ∧ low.last = dominant ∧ low.run < 9) ∧
      ({ low with pending := true } : Rx).pending = true) ∧
    ((atEnd.bits ++ [last]).length = 41 ∧ atEnd.edgeDue = false ∧ atEnd.run < 9 ∧
      natOf ((bits.drop 21).take 4) = 0 ∧ ({ atEnd with pending := true } : Rx).pending = true) ∧
    (parseFrame (atEnd.bits ++ [last]) = some sag ∧ parseFrame (atEnd.bits ++ [!last]) = none) ∧
    (Rx.start.bits ++ [dominant]).length < 25 := by decide +kernel

/-- Eight dominant bits with a dominant edge bit and then a recessive bit, and ten dominant bits. -/
theorem witness_FormatErrorJamsInActiveOnly :
    let bits := List.replicate 8 dominant ++ [recessive]
    (receivingIn active).receiving = true ∧
      (readBits (receivingIn active).line.rx bits).2 = .formatError ∧
      (receivingIn gathering).receiving = true ∧
      nextIs (exec (.formatError bits) (receivingIn active)) (fun t => t.part.state == .active) =
        true ∧
      nextIs (exec (.formatError bits) (receivingIn (withFault 14 active)))
        (fun t => t.part.state == .mute && t.line.faultCount == 16) = true := by decide +kernel

theorem witness_JamsOfOthersCountNoFault :
    (receivingIn active).receiving = true ∧
      (readBits (receivingIn active).line.rx (List.replicate 9 dominant)).2 = .jam ∧
      (received claim (some .agree) active).slotFrame = some claim := by decide +kernel

theorem witness_EveryFrameIsReadFromItsLineBits : claim.payload.Fits := by
  simp [claim, Payload.Fits]

theorem witness_VerdictIsTheSumOfItsChecks : active.lineCount = some 41 := rfl

/-- A frame of S12 that the table agrees with and one that it does not, and a frame of S9. -/
def heard (f : Frame) (s : State) : Prop :=
  (receivingIn s).receiving = true ∧
    (readBits (receivingIn s).line.rx ((lineBits f).drop 1)).2 = .complete f
theorem witness_ReceivedFrameIsCheckedBeforeItsSlots :
    (heard claim active ∧ claim.sender ≠ active.own ∧ active.agreesWith claim = true) ∧
    (heard (plain 5) active ∧ active.agreesWith (plain 5) = false) ∧
    heard claim gathering ∧ heard { claim with sender := 9 } active := by
  unfold heard; decide +kernel

theorem witness_DebtStacksArePushedAndTrimmed :
    let four : List DebtRecord := List.replicate 4 { creditor := 5, units := 1 }
    let full := table.put 12 (entry 2 4 8 4 four 7)
    ((table.at 31).presence = .absent ∧ 4 ≤ full.shedDepth 5 ∧ table.shedDepth 5 < 4 ∧
      (table.at 5).presence ≠ .absent ∧ full.shedDepth 9 < 4 ∧
      (full.at 12).debts.length = 4) ∧
    (∀ d ∈ four, 1 ≤ d.units) ∧ owed four = 4 := by decide +kernel

/-- Five eligible victims, of which four are considered. -/
def victims : Table :=
  ((((table.put 1 (entry 0 0 9 9 [] 0)).put 2 (entry 0 0 9 9 [] 0)).put 3
    (entry 1 0 9 9 [] 0)).put 4 (entry 1 0 1 1 [] 0)).put 9 (entry 1 3 12 12 [] 0)
theorem witness_VictimsAreConsideredAndTakenInOrder :
    victims.considered 12 2 = [5, 2, 1, 9] ∧ (victims.at 3).presence = .present ∧
      0 < (victims.at 3).excess ∧ victims.shedDepth 3 < 4 ∧
      (table.victimList 40 12 2 7)[0]? = some { victim := 5, units := 1 } ∧
      6 ≤ table.free 40 ∧ 29 ≤ table.free 40 + table.sheddable 12 2 ∧
      table.victimList 40 12 2 6 = [] := by decide +kernel

theorem table_lawful : table.Lawful :=
  ⟨fun a => ⟨by revert a; decide +kernel, by revert a; decide +kernel,
    by revert a; decide +kernel, by revert a; decide +kernel⟩, by decide +kernel⟩
theorem witness_ClaimMovesUnitsFromVictimsToClaimant :
    table.Lawful ∧ table.held ≤ 40 ∧ (table.at 12).presence = .present ∧
      22 ≤ table.free 40 + table.sheddable 12 2 :=
  ⟨table_lawful, by decide +kernel, by decide, by decide +kernel⟩

/-- S9 gives back the whole of its holding, and S5 takes the six units it is owed. -/
theorem witness_ReleaseRepaysTheNewestDebtsFirst :
    table.Lawful ∧ (table.at 9).presence = .present ∧ 12 ≤ (table.at 9).holding ∧
      table.settlementList 9 12 = [{ creditor := 5, settled := 6, given := 6 }] :=
  ⟨table_lawful, by decide, by decide, by decide +kernel⟩

/-- The table with S31 known to no one yet. -/
def unsure : Table := table.put 31 (Entry.cleared .unknown)
theorem unsure_lawful : unsure.Lawful :=
  ⟨fun a => ⟨by revert a; decide +kernel, by revert a; decide +kernel,
    by revert a; decide +kernel, by revert a; decide +kernel⟩, by decide +kernel⟩
theorem witness_EvictionSettlesAndClearsTheEntry :
    unsure.Lawful ∧ (unsure.at 9).presence = .present ∧ (unsure.at 30).presence = .absent ∧
      (unsure.at 31).presence = .unknown ∧
      ((table.evict none 9).at 5).holding = 24 ∧ ((table.evict (some 5) 9).at 5).holding = 18 :=
  ⟨unsure_lawful, by decide, by decide, by decide, by decide +kernel, by decide +kernel⟩

theorem witness_AnnounceUpdatesOrCreatesTheEntry :
    table.Lawful ∧ (table.at claim.sender).presence = .present ∧
      (table.at ({ claim with sender := 31 } : Frame).sender).presence ≠ .present :=
  ⟨table_lawful, by decide, by decide⟩

/-- A claimant and a debtor known and unknown, and a debt list that is copied whole. -/
theorem witness_GatherAppliesThePartialRules :
    table.Lawful ∧ (table.at 12).presence = .present ∧ (table.at 31).presence ≠ .present ∧
      (let debts : List DebtRecord := [{ creditor := 5, units := 2 }]
       debts.length ≤ 4 ∧ ∀ d ∈ debts, d.units ≠ 0 ∧ d.creditor ≠ 12 ∧
        (table.at d.creditor).presence ≠ .absent ∧
        (table.put 12 (entry 2 4 8 4 [] 0)).shedDepth d.creditor +
          debts.countP (fun x => x.creditor == d.creditor) ≤ 4) ∧
      claim.sender ≠ 9 :=
  ⟨table_lawful, by decide, by decide, by decide +kernel, by decide⟩
/-- R63: two entries for S5 reduce its newest record and then its next older one. -/
theorem test_gather_release_reduces_newest_first :
    reduceAll [{ creditor := 5, settled := 3, given := 0 }, { creditor := 5, settled := 1, given := 0 }]
        [{ creditor := 5, units := 4 }, { creditor := 6, units := 2 }, { creditor := 5, units := 3 }] =
      [{ creditor := 5, units := 3 }, { creditor := 6, units := 2 }] := by decide

/-- A station that stands before the confirmation point of a frame it agrees with. -/
def before (f : Frame) (s : State) : Prop :=
  s.clocked = true ∧ s.slotFrame = some f ∧ s.line.verdict ≠ some .disagree ∧
    s.agreesWith f = true
theorem witness_ConfirmedFrameIsAppliedInActive :
    (before claim (received claim (some .agree) active) ∧ active.part.state = .active) ∧
    before (eager.ownFrame .claim) sender ∧
    (before repay (received repay (some .agree) owing) ∧ owing.own = 9) ∧
    before (plain 4) (received (plain 4) (some .agree) active) ∧
    before evict (received evict (some .agree) active) ∧
    ((table.applyActive 9 evict).evicted = 1 ∧ (table.applyActive 5 evict).repaid = true) := by
  unfold before; decide +kernel

theorem witness_OnlyTheNextLineCountIsApplied :
    let s := received claim (some .agree) active
    s.slotFrame = some claim ∧
      nextIs (exec (.frameConfirmed dominant) s) (fun t => t.table != s.table) = true := by
  decide +kernel

/-- The station listed, not listed, sending, eager before and sated before. -/
theorem witness_ConfirmedClaimShedsAndCountsPatience :
    let c (f : Frame) (s : State) (p : State → Bool) : Bool :=
      nextIs (exec (.frameConfirmed dominant) (received f (some .agree) s)) p
    before claim (received claim (some .agree) active) ∧
    before smallClaim (received smallClaim (some .agree) eager) ∧
    before (eager.ownFrame .claim) sender ∧ sender.line.role = .sender ∧
    c claim active (fun t => decide (t.allowedLevel < t.wantLevel) && t.demand.patience == 0) =
      true ∧
    c smallClaim eager (fun t => decide (t.allowedLevel < t.wantLevel) && t.demand.patience == 1) =
      true := by
  unfold before; decide +kernel

theorem witness_OwnEvictionCutsAndReannounces :
    before evict (received evict (some .agree) active) ∧ active.own ∈ [(9 : Address)] ∧
      before evict (received evict (some .agree) resting) ∧ resting.power.state ≠ .run := by
  unfold before; decide +kernel

theorem witness_OwnAnnounceRestartsItsTimer :
    let s := sends .announce (withOutbox { Outbox.empty with announce := some .plain } active)
    before (active.ownFrame .announce) s ∧ (active.ownFrame .announce).sender = s.own ∧
      (active.ownFrame .announce).payload =
        .announce false 3 12 12 [{ creditor := 5, units := 6 }] := by
  unfold before; decide +kernel

theorem witness_ConfirmedSagStartsSagHold :
    before sag (received sag (some .agree) active) ∧
      before sag (received sag (some .agree) resting) := by
  unfold before; decide +kernel

/-- A rejoin of the own, and a claim that carries the sum past the budget. -/
def tooMuch : Frame := { claim with payload := .claim 60 60 [] }
theorem witness_ConfirmedFrameInGather :
    let s := sends .announce rejoining
    let heardBy (f : Frame) : State := received f none gathering
    (s.slotFrame = some (rejoining.ownFrame .announce) ∧
      (s.table.applyGather s.own (rejoining.ownFrame .announce)).table.held ≤ s.cfg.budget) ∧
    ((heardBy tooMuch).slotFrame = some tooMuch ∧
      gathering.cfg.budget < (gathering.table.applyGather 9 tooMuch).table.held) ∧
    ((heardBy claim).slotFrame = some claim ∧
      (gathering.table.applyGather 9 claim).table.held ≤ gathering.cfg.budget) ∧
    ((heardBy evict).slotFrame = some evict ∧
      (gathering.table.applyGather 9 evict).table.held ≤ gathering.cfg.budget) := by
  decide +kernel

theorem witness_ConfirmedFrameInMute :
    let s := received evict none (withFault 5 muted)
    (s.clocked = true ∧ s.part.state = .mute ∧ s.slotFrame = some evict ∧
      s.line.role = .receiver ∧ s.line.verdict ≠ some .disagree ∧ s.line.faultCount ≤ 5) ∧
    5 < (received sag none (withFault 6 muted)).line.faultCount := by decide +kernel

theorem witness_VoidFrameShowsWhoIsStale :
    (sender.clocked = true ∧ sender.part.state = .active ∧ sender.line.role = .sender ∧
      sender.line.verdict = none ∧ sender.slotFrame = some (eager.ownFrame .claim)) ∧
    (received (plain 5) (some .disagree) active).slotFrame = some (plain 5) ∧
    (received claim (some .agree) active).line.verdict = some .agree := by decide +kernel

theorem witness_VoidFrameInGatherAndMute :
    ((sends .announce rejoining).part.state = .gather .rejoin ∧
      (sends .announce rejoining).line.verdict = none ∧
      (sends .announce rejoining).slotFrame = some (rejoining.ownFrame .announce)) ∧
    (received claim none gathering).slotFrame = some claim ∧
    (received claim none (withFault 5 muted)).line.faultCount ≤ 5 ∧
    5 < (received claim none (withFault 6 muted)).line.faultCount := by decide +kernel

/-! The laws hold of the small station, whose next step is a tick. -/

theorem active_loadLaw : LoadLaw (queued .tick active) :=
  ⟨fun h => absurd h (by decide), fun h => absurd h (by decide), fun c h => by
    obtain rfl : settings = c := Option.some.inj h
    exact ⟨rfl, by decide, by decide, by decide, by decide, by decide, by decide, by decide,
      by decide, by decide, by decide, by decide, by decide⟩⟩

theorem witness_UnloadedStationStandsStill :
    LoadLaw (queued .tick active) ∧ nextIs (step (queued .tick active)) (fun _ => true) = true :=
  ⟨active_loadLaw, by decide +kernel⟩
theorem active_tableLaw : TableLaw (queued .tick active) :=
  ⟨active_loadLaw, table_lawful, by decide +kernel⟩
/-- A CLAIM on the line of a station in GATHER, its victims covered. -/
theorem witness_BudgetAndDebtLawsAreKept :
    TableLaw (queued .tick active) ∧
      ((received claim none gathering).slotFrame = some claim ∧ claim.Covered) ∧
      nextIs (step (queued (.frameConfirmed dominant) (received claim none gathering)))
        (fun t => (t.table.at 12).holding == 26) = true :=
  ⟨active_tableLaw, ⟨by decide +kernel, by simp [claim, Frame.Covered, takenBy]⟩,
    by decide +kernel⟩
theorem active_outputLaw : OutputLaw (queued .tick active) :=
  ⟨active_loadLaw, by decide +kernel, by decide⟩
theorem witness_OutputStaysWithinItsLimits :
    OutputLaw (queued .tick active) ∧
      nextIs (step (queued .tick active)) (fun t => t.drive.output == 4) = true :=
  ⟨active_outputLaw, by decide +kernel⟩

theorem witness_LineOutboxAndListenLawsAreKept : LineLaw (queued .tick active) :=
  { load := active_loadLaw
    sender := fun h => absurd h (by decide), ownFrame := by decide, slots := by decide
    outbox := by decide, rejoin := fun h => absurd h (by decide), active := by decide
    received := fun _ h => nomatch h
    off := by decide, start := by decide, listen := by decide, dormant := by decide
    rest := by decide }
theorem active_countLaw : CountLaw (queued .tick active) :=
  { load := active_loadLaw
    listen := by decide, start := by decide, asleep := by decide, fault := by decide
    faultBelow := by decide, patience := by decide, patienceZero := by decide
    counters := ⟨by decide, by decide, by decide, by decide, by decide, by decide, by decide,
      by decide⟩
    ages := by decide +kernel, wants := by decide +kernel
    frames := fun _ h => h.elim (fun h => nomatch h) (fun h => nomatch h)
    highCount := by decide, blanking := by decide
    overdrawRun := by decide, sagRun := by decide, schedule := by decide, attempts := by decide
    waiting := by decide, retry := by decide, image := by decide }
theorem witness_CountsAndTimersStayInRange :
    CountLaw (queued .tick active) ∧ TimerLaw (queued .tick active) :=
  ⟨active_countLaw, active_loadLaw, by decide, by decide,
    fun n h => by
      obtain rfl : 3 = n := Horizon.counting.inj h
      decide,
    by decide, by decide⟩

theorem witness_TableChangesOnlyAtItsMoments :
    nextIs (exec .tick active) (fun t => (t.table.at 9).age == 3) = true ∧
      nextIs (exec (.frameConfirmed dominant) (received claim (some .agree) active))
        (fun t => (t.table.at 9).holding == 10) = true := by decide +kernel

/-! ### Timers -/

def withWindow (n : Nat) (s : State) : State := { s with part := { s.part with windowTimer := n } }
def withAnnounce (n : Nat) (s : State) : State :=
  { s with part := { s.part with announceTimer := n } }

/-- The window one and two ticks short of its close, the announce timer one short, a silence age that
reaches its limit, the idle and the dormant timer. -/
theorem witness_TickAdvancesTheTimers :
    active.settledRunning = true ∧
      ((withWindow 98 gathering).part.windowTimer + 1 < 2 * gathering.cfg.announcePeriod ∧
        2 * gathering.cfg.announcePeriod ≤ (withWindow 99 gathering).part.windowTimer + 1) ∧
      (active.activeRun = true ∧ resting.activeRun = false) ∧
      ((withAnnounce 49 active).part.announceTimer < active.cfg.announcePeriod ∧
        active.cfg.announcePeriod ≤ (withAnnounce 49 active).part.announceTimer + 1) ∧
      (idling.idle = true ∧ active.idle = false ∧ resting.power.state = .listen) := by
  decide +kernel

theorem witness_TimersActAtTheirLimits :
    active.settledRunning = true ∧ active.activeRun = true ∧
      ((silentTable.at 4).presence = .present ∧
        3 * active.cfg.announcePeriod ≤ (silentTable.at 4).age) ∧
      active.cfg.announcePeriod ≤ (withAnnounce 50 active).part.announceTimer + 1 ∧
      (gathering.part.state = .gather .window ∧
        2 * gathering.cfg.announcePeriod ≤ (withWindow 99 gathering).part.windowTimer + 1) ∧
      2 * active.cfg.announcePeriod ≤ 99 + 1 := by decide +kernel

theorem witness_IdleStationEntersListen :
    let s : State := { idling with power := { idling.power with idleTimer := 300 } }
    idling.settledRunning = true ∧ s.idle = true ∧ 0 < s.idleTicks ∧
      s.idleTicks ≤ s.power.idleTimer ∧ s.idleTicks ≤ 299 + 1 ∧
      s.line.outbox = Outbox.empty := by decide +kernel

def asleep (p : PowerState) : State :=
  inState .sleep { State.reset with
    config := some settings, power := { PowerControl.reset with state := p } }
theorem witness_RestGoesToDormantAndWakes :
    let s : State := { resting with power := { resting.power with dormantTimer := 1000 } }
    (s.settledRunning = true ∧ s.power.state = .listen ∧ 0 < s.dormantTicks ∧
      s.dormantTicks ≤ s.power.dormantTimer ∧ s.dormantTicks ≤ 999 + 1 ∧
      s.line.position = .ready) ∧
    ((asleep .dormant).rst.inForce = false ∧ (asleep .dormant).power.state = .dormant) ∧
    ((asleep .run).power.state = .run ∧ (asleep .run).part.state = .sleep ∧
      (asleep .run).power.clockReady = false) := by decide +kernel

/-! ### The equipment side -/

/-- The third sample of a new level takes it, in ACTIVE and in LISTEN. -/
theorem witness_DemandSampleDebouncesAndDecides :
    let third (s : State) : State :=
      { s with demand := { s.demand with lastSample := 6, sameCount := 2 } }
    (third active).settledRunning = true ∧
      nextIs (exec (.demandSample 6 true) (third active))
        (fun t => t.wantLevel == 6 && t.claimDue) = true ∧
      nextIs (exec (.demandSample 6 true) (third resting))
        (fun t => t.wantLevel == 6 && t.power.state == .run) = true ∧
      nextIs (exec (.demandSample 4 false) active) (fun t => t.releaseDue) = true := by
  decide +kernel

/-- A ramp from level 3, its timer at this. -/
def ramping (r : RampTimer) : State :=
  { active with drive := { active.drive with output := 3, ramp := r } }
/-- The station with a ramp step of 1 ms and a period of as much. -/
def steep : State :=
  { ramping .started with config := some { settings with rampStep := 1, pwmCode := 0 } }
/-- R128: a ramp of 20 ms a level that starts in the moment of a boundary rises at the eightieth boundary
after it, 250 µs apart. -/
theorem test_ramp_from_a_boundary :
    nextIs (exec (.periodBoundary 2000) (ramping .started)) (fun t =>
      t.drive.output == 3 && t.drive.ramp == .running 2000) = true ∧
    nextIs (exec (.periodBoundary 0) (ramping (.running (79 * 2000)))) (fun t =>
      t.drive.output == 4) = true ∧
    nextIs (exec (.periodBoundary 0) (ramping (.running (78 * 2000)))) (fun t =>
      t.drive.output == 3) = true := by decide +kernel
theorem witness_PeriodBoundarySetsDutyAndConverts :
    (active.settledRunning = true ∧ active.drive.period ≠ none) ∧
      ((ramping .started).drive.output < (ramping .started).target ∧
        8000 * active.cfg.rampStep ≤ 158000 + periodTime active.cfg.pwmCode ∧
        157999 + periodTime active.cfg.pwmCode < 8000 * active.cfg.rampStep) ∧
      (steep.drive.output < steep.target ∧
        8000 * steep.cfg.rampStep ≤ min 8000 (periodTime steep.cfg.pwmCode) ∧
        min 7999 (periodTime steep.cfg.pwmCode) < 8000 * steep.cfg.rampStep) ∧
      (active.sense.schedule < 7 ∧ active.drive.ramp = .stopped) ∧
      (active.drive.gate = true ∧ 1333 < periodTime active.cfg.pwmCode) := by decide +kernel

/-- A conversion of ISENSE with its run and blanking count. -/
def measuring (run blanking : Nat) : State :=
  { active with sense := { active.sense with
      converter := .converting (.isense false), overdrawRun := run, blanking := blanking } }
theorem witness_OverdrawRunsAndTrips :
    (measuring 0 0).settledRunning = true ∧ (measuring 0 0).sense.limit = some 700 ∧
      0 < (measuring 0 2).sense.blanking ∧
      (measuring 1 0).sense.overdrawRun < 2 ∧ (measuring 2 0).sense.overdrawRun = 2 ∧
      nextIs (exec (.conversionReady 701) (measuring 2 0))
        (fun t => t.sense.lockout == some 5 && t.drive.output == 0 && t.line.outbox.release) =
          true ∧
      nextIs (exec (.conversionReady 700) (measuring 2 0)) (fun t => t.sense.lockout == none) =
        true := by decide +kernel

def sagging (run : Nat) (hold : Option Nat) : State :=
  { active with sense := { active.sense with
      converter := .converting .vsense, sagRun := run, sagHold := hold } }
theorem witness_SagRunsAndIsDetected :
    (sagging 0 none).settledRunning = true ∧ (sagging 0 none).sense.sagRun = 0 ∧
      16 * active.cfg.sagThreshold ≤ 2880 ∧ 2879 < 16 * active.cfg.sagThreshold ∧
      (sagging 1 none).activeRun = true ∧ (sagging 1 (some 20)).sense.sagHold ≠ none := by
  decide +kernel

theorem witness_LockoutAndSagHoldEnd :
    let s : State := { active with sense := { active.sense with
      lockout := some 5, sagHold := some 20 } }
    s.settledRunning = true ∧ s.power.state = .run ∧ s.sense.lockout ≠ none ∧
      s.sense.sagHold ≠ none := by decide

theorem witness_TargetIsTheLowestLimitAndIsFollowed :
    sated.target < sated.drive.output ∧
      ((ramping (.running 0)).drive.output < (ramping (.running 0)).target ∧
        (ramping (.running 0)).drive.ramp ≠ .stopped) ∧
      active.drive.output = active.target ∧
      (measuring 0 0).sense.converter = .converting (.isense false) := by decide +kernel

/-! ### The monitor port -/

/-- A transaction with these bits clocked in and this command taken. -/
def clocking (bits : List Bit) (taken : Option MonitorCommand) : State :=
  { active with monitor := { active.monitor with
      ncsLow := true
      transaction := some { received := bits, taken := taken, reply := [false] } } }
theorem witness_TransactionShiftsBits :
    (active.monitor.ncsLow = false ∧ active.rst.inForce = false ∧
      active.power.state ≠ .dormant ∧ active.monitor.transaction = none) ∧
    ((asleep .dormant).monitor.ncsLow = false ∧ (asleep .dormant).power.state = .dormant ∧
      (active.resetBlocks { inForce := true, cause := .pin }).monitor.ncsLow = false ∧
      (clocking [] none).monitor.ncsLow = true) ∧
    (byteBits 0x12 <+: byteBits 0x12 ∧
      byteBits 0x12 <+: (byteBits 0x12 ++ byteBits (addressByte 31)).take 14 ∧
      ((byteBits 0x12 ++ byteBits (addressByte 31)).take 14).length ≤ 14) ∧
    ((byteBits 0x11).take 7 ++ [true] = byteBits 0x11 ∧
      (byteBits 0x12).take 7 ++ [false] = byteBits 0x12 ∧
      (byteBits 0x12 ++ byteBits (addressByte 31)).take 15 ++ [true] =
        byteBits 0x12 ++ byteBits (addressByte 31) ∧
      (byteBits 0x13).take 7 ++ [true] = byteBits 0x13 ∧
      (byteBits 0x14).take 7 ++ [false] = byteBits 0x14 ∧
      (byteBits 0x1C).take 7 ++ [false] = byteBits 0x1C) ∧
    (unknownBytes 0x12 (some 32) = true ∧
      (unknownBits 0x12 (some 32)).take 15 ++ [false] = unknownBits 0x12 (some 32)) ∧
    ((clocking [] none).monitor.transaction =
        some { received := [], taken := none, reply := [false] } ∧
      (clocking [] (some .clear)).monitor.transaction ≠ none) := by decide +kernel

/-- Seven bits of eight, and fifteen of sixteen. -/
theorem witness_SnapshotsAreCapturedWhole :
    ((byteBits 0x11).take 7 <+: byteBits 0x11 ∧ ((byteBits 0x11).take 7).length < 8) ∧
      ((byteBits 0x12 ++ byteBits (addressByte 31)).take 15 <+:
          byteBits 0x12 ++ byteBits (addressByte 31)) ∧
      (byteBits 0x13).take 7 <+: byteBits 0x13 ∧
      nextIs (exec (.entry 31) (clocking ((byteBits 0x12 ++ byteBits (addressByte 31)).take 15)
        none)) (fun t => t.monitor.snapshot.length == 16) = true := by decide +kernel

theorem witness_EventsAndClearActWhenTaken :
    ((byteBits 0x14).take 7 <+: byteBits 0x14 ∧ (byteBits 0x1C).take 7 <+: byteBits 0x1C) ∧
      (unknownBytes 0x77 none = true ∧ [] <+: unknownBits 0x77 none ∧
        ([] : List Bit).length < (unknownBits 0x77 none).length) ∧
      (clocking ((byteBits 0x14).take 7) none).monitor.transaction ≠ none := by decide +kernel

/-- A record of S9 in its second slot is 0, and its age is two ticks. -/
theorem witness_StatusImageShowsTheStation :
    CountLaw (queued .tick active) ∧ TableLaw (queued .tick active) ∧
      OutputLaw (queued .tick active) ∧
      active.entryImage 9 = withCrc8 [0x89, 0x11, 3, 12, 12, 5, 6, 0, 0, 0, 0, 0, 0, 0, 2] ∧
      State.reset.statusBody.getD 9 1 = 0 :=
  ⟨active_countLaw, active_tableLaw, active_outputLaw, by decide +kernel, by decide +kernel⟩

end Sys2Proof.Tests
end

section
/-! The laws of the grant table (R10, R22 to R24) under the table's own operations: what is left of a
debt stack, one entry replaced, pushes, CLAIM, settlement, EVICT and ANNOUNCE. -/

namespace Sys2Proof.Machine

/-! ### What is left of a debt stack -/

/-- `new` is what is left of the stack `old`: some of its records, in their order, each with some of
its units still owed. -/
structure Lessened (old new : List DebtRecord) : Prop where
  creditors : (new.map (·.creditor)).Sublist (old.map (·.creditor))
  units : (∀ d ∈ old, 1 ≤ d.units) → ∀ d ∈ new, 1 ≤ d.units

namespace Lessened

theorem refl (ds : List DebtRecord) : Lessened ds ds := ⟨List.Sublist.refl _, id⟩

theorem trans {xs ys zs : List DebtRecord} (h : Lessened xs ys) (k : Lessened ys zs) :
    Lessened xs zs :=
  ⟨k.creditors.trans h.creditors, k.units ∘ h.units⟩

theorem of_sublist {xs ys : List DebtRecord} (h : ys.Sublist xs) : Lessened xs ys :=
  ⟨h.map _, fun hx d hd => hx d (h.subset hd)⟩

theorem reverse {xs ys : List DebtRecord} (h : Lessened xs ys) : Lessened xs.reverse ys.reverse :=
  ⟨by simpa using h.creditors, fun hx => by simpa using h.units (by simpa using hx)⟩

/-- A record lost. -/
theorem drop_head {ds es : List DebtRecord} (d : DebtRecord) (h : Lessened ds es) :
    Lessened (d :: ds) es :=
  ⟨h.creditors.trans (List.sublist_cons_self _ _),
    fun hx => h.units fun e he => hx e (List.mem_cons_of_mem _ he)⟩

/-- A record kept with some of its units. -/
theorem keep_head {ds es : List DebtRecord} {d e : DebtRecord} (hc : e.creditor = d.creditor)
    (hu : 1 ≤ d.units → 1 ≤ e.units) (h : Lessened ds es) : Lessened (d :: ds) (e :: es) where
  creditors := by simpa [hc] using h.creditors
  units hx := by
    obtain ⟨hd, hds⟩ := List.forall_mem_cons.mp hx
    exact List.forall_mem_cons.mpr ⟨hu hd, h.units hds⟩

theorem length_le {old new : List DebtRecord} (h : Lessened old new) : new.length ≤ old.length := by
  simpa using h.creditors.length_le

/-- Nobody is named more often. -/
theorem countP_le {old new : List DebtRecord} (h : Lessened old new) (x : Address) :
    new.countP (fun d => d.creditor == x) ≤ old.countP (fun d => d.creditor == x) := by
  simpa [List.countP_map, Function.comp_def] using h.creditors.countP_le (p := fun c => c == x)

/-- What R23 asks of the records of `a`'s stack stays true of what is left of it. -/
theorem named {old new : List DebtRecord} (h : Lessened old new) {a : Address}
    (hold : ∀ d ∈ old, d.creditor ≠ a ∧ 1 ≤ d.units) : ∀ d ∈ new, d.creditor ≠ a ∧ 1 ≤ d.units := by
  intro d hd
  obtain ⟨e, he, hce⟩ := List.mem_map.mp (h.creditors.subset (List.mem_map_of_mem hd))
  exact ⟨hce ▸ (hold e he).1, h.units (fun x hx => (hold x hx).2) d hd⟩

end Lessened

theorem lessened_trimBy (n : Nat) (ds : List DebtRecord) : Lessened ds (trimBy n ds) := by
  induction ds generalizing n with
  | nil => exact .refl _
  | cons d ds ih =>
    unfold trimBy
    split_ifs with h
    · exact (ih _).drop_head d
    · exact (Lessened.refl ds).keep_head rfl (by simp only; omega)

theorem lessened_trimTo (holding : Nat) (ds : List DebtRecord) : Lessened ds (trimTo holding ds) := by
  unfold trimTo
  split_ifs
  · exact .refl _
  · exact lessened_trimBy _ _

theorem lessened_walk (keepOut : Option Address) (t : Table) (n : Nat) (ds : List DebtRecord) :
    Lessened ds (walk keepOut t n ds).left := by
  induction ds generalizing t n with
  | nil => exact .refl _
  | cons d ds ih =>
    unfold walk
    split_ifs with h
    · exact .refl _
    · dsimp only
      by_cases hd : d.units = min d.units n
      · rw [if_pos hd]
        exact (ih _ _).drop_head d
      · rw [if_neg hd]
        exact (ih _ _).keep_head rfl (by simp only; omega)

theorem lessened_reduceNewest (c : Address) (n : Nat) (ds : List (DebtRecord × Bool)) :
    Lessened (ds.map (·.1)) ((reduceNewest c n ds).map (·.1)) := by
  induction ds with
  | nil => exact .refl _
  | cons x ds ih =>
    obtain ⟨d, done⟩ := x
    unfold reduceNewest
    split_ifs with hc hn
    · exact (Lessened.refl _).drop_head d
    · exact (Lessened.refl _).keep_head rfl (by simp only; omega)
    · exact ih.keep_head rfl id

theorem lessened_reduceAll (list : List Settlement) (ds : List DebtRecord) :
    Lessened ds (reduceAll list ds) := by
  have hfold : ∀ marked : List (DebtRecord × Bool), Lessened (marked.map (·.1))
      ((list.foldl (fun ds x => reduceNewest x.creditor x.settled ds) marked).map (·.1)) := by
    induction list with
    | nil => exact fun _ => .refl _
    | cons x xs ih => exact fun marked => (lessened_reduceNewest _ _ _).trans (ih _)
  have h := (hfold (ds.reverse.map fun d => (d, false))).reverse
  simpa [Function.comp_def, reduceAll] using h

/-! ### One entry of a lawful table -/

theorem Entry.isPresent_iff {e : Entry} : e.isPresent = true ↔ e.presence = .present := by
  simp [Entry.isPresent]

theorem Entry.share_of_present {e : Entry} (h : e.presence = .present) : e.share = e.holding := by
  simp [Entry.share, Entry.isPresent, h]

theorem Entry.naming_eq_zero {e : Entry} (h : e.debts = []) (x : Address) : e.naming x = 0 := by
  simp [Entry.naming, h]

/-- An entry that keeps its presence and keeps what is left of its stack names nobody more often. -/
theorem Entry.naming_le {e u : Entry} (hp : u.presence = e.presence)
    (hl : Lessened e.debts u.debts) (x : Address) : u.naming x ≤ e.naming x := by
  unfold Entry.naming Entry.isPresent
  rw [hp]
  split_ifs
  · exact hl.countP_le x
  · exact le_rfl

theorem Entry.lawful_cleared (a : Address) (p : Presence) : (Entry.cleared p).Lawful a :=
  ⟨fun _ => rfl, Nat.zero_le _, fun _ hd => absurd hd List.not_mem_nil, Nat.zero_le _⟩

/-- A PRESENT entry without debts keeps the laws. -/
theorem Entry.lawful_of_no_debts {e : Entry} (hp : e.presence = .present) (hd : e.debts = [])
    (a : Address) : e.Lawful a :=
  ⟨fun h => absurd hp h, by simp [hd], by simp [hd], by simp [hd]⟩

/-- A PRESENT entry that owes what is left of its stack, within its holding, keeps the laws. -/
theorem Entry.Lawful.lessen {a : Address} {e u : Entry} (h : e.Lawful a)
    (hp : u.presence = .present) (hl : Lessened e.debts u.debts) (hc : owed u.debts ≤ u.holding) :
    u.Lawful a :=
  ⟨fun hu => absurd hp hu, hl.length_le.trans h.four, hl.named h.named, hc⟩

namespace Table.Lawful

theorem allAbsent : Table.allAbsent.Lawful where
  entries a := by simpa using Entry.lawful_cleared a .absent
  depths a := by simp [Table.shedDepth_eq_sum, Entry.naming, Entry.isPresent, Entry.cleared]

/-- Lawful entries that name nobody more often make a lawful table. -/
theorem of_naming_le {t u : Table} (ht : t.Lawful) (he : ∀ a, (u.at a).Lawful a)
    (hn : ∀ a x, (u.at a).naming x ≤ (t.at a).naming x) : u.Lawful :=
  ⟨he, fun x => (Table.shedDepth_mono fun a => hn a x).trans (ht.depths x)⟩

/-- A lawful entry that names nobody more often may replace another. -/
theorem put {t : Table} (ht : t.Lawful) {a : Address} {e : Entry} (he : e.Lawful a)
    (hn : ∀ x, e.naming x ≤ (t.at a).naming x) : (t.put a e).Lawful := by
  refine ht.of_naming_le (fun b => ?_) (fun b x => ?_)
  · rw [Table.at_put]
    split_ifs with hb
    · exact hb ▸ he
    · exact ht.entries b
  · rw [Table.at_put]
    split_ifs with hb
    · exact hb ▸ hn x
    · exact le_rfl

/-- A PRESENT entry may be replaced by one that owes what is left of its stack, within its holding. -/
theorem put_lessened {t : Table} (ht : t.Lawful) {a : Address} {e : Entry}
    (hp : (t.at a).presence = .present) (hpe : e.presence = .present)
    (hl : Lessened (t.at a).debts e.debts) (hc : owed e.debts ≤ e.holding) : (t.put a e).Lawful :=
  ht.put ((ht.entries a).lessen hpe hl hc) (Entry.naming_le (hpe.trans hp.symm) hl)

/-- Any entry may be replaced by a PRESENT one without debts. -/
theorem put_no_debts {t : Table} (ht : t.Lawful) {a : Address} {e : Entry}
    (hp : e.presence = .present) (hd : e.debts = []) : (t.put a e).Lawful :=
  ht.put (Entry.lawful_of_no_debts hp hd a) fun x => (Entry.naming_eq_zero hd x).trans_le (Nat.zero_le _)

theorem put_cleared {t : Table} (ht : t.Lawful) (a : Address) (p : Presence) :
    (t.put a (Entry.cleared p)).Lawful :=
  ht.put (Entry.lawful_cleared a p) fun x => (Entry.naming_eq_zero rfl x).trans_le (Nat.zero_le _)

/-- The units an entry owes, in a table that keeps R10: none where it is not PRESENT. -/
theorem debts_of_not_present {t : Table} (ht : t.Lawful) {a : Address}
    (h : (t.at a).presence ≠ .present) : (t.at a).debts = [] := by
  rw [(ht.entries a).cleared h]; rfl

/-- Records removed from the stacks leave the table lawful. -/
theorem filter_debts {t : Table} (ht : t.Lawful) (p : DebtRecord → Bool) {u : Table}
    (hu : ∀ a, u.at a = { t.at a with debts := (t.at a).debts.filter p } ∨
      ∃ q, u.at a = Entry.cleared q) : u.Lawful := by
  have hl : ∀ a, Lessened (t.at a).debts ((t.at a).debts.filter p) := fun a =>
    .of_sublist List.filter_sublist
  refine ht.of_naming_le (fun a => ?_) (fun a x => ?_)
  · obtain h | ⟨q, h⟩ := hu a
    · rw [h]
      by_cases hp : (t.at a).presence = .present
      · refine (ht.entries a).lessen hp (hl a) ?_
        exact ((List.filter_sublist.map _).sum_le_sum fun _ _ => Nat.zero_le _).trans
          (ht.entries a).covered
      · rw [ht.debts_of_not_present hp, List.filter_nil, ← ht.debts_of_not_present hp]
        exact ht.entries a
    · rw [h]; exact Entry.lawful_cleared a q
  · obtain h | ⟨q, h⟩ := hu a
    · rw [h]; refine Entry.naming_le ?_ (hl a) x; rfl
    · rw [h, Entry.naming_eq_zero rfl]; exact Nat.zero_le _

theorem forgive {t : Table} (ht : t.Lawful) (x : Address) : (t.forgive x).Lawful :=
  ht.filter_debts (fun d => d.creditor != x) fun a => .inl (Table.at_forgive t x a)

theorem closed {t : Table} (ht : t.Lawful) : t.closed.Lawful := by
  refine ht.filter_debts (fun d => (t.at d.creditor).presence != .unknown) fun a => ?_
  rw [Table.at_closed]
  split_ifs
  · exact .inr ⟨_, rfl⟩
  · exact .inl rfl

theorem forGather {t : Table} (ht : t.Lawful) (own : Address) (evicted : Bool) :
    (t.forGather own evicted).Lawful := by
  refine ht.filter_debts (fun _ => true) fun a => ?_
  rw [Table.at_forGather]
  split_ifs
  · exact .inr ⟨_, rfl⟩
  · left; rw [List.filter_true]
  · exact .inr ⟨_, rfl⟩

/-- The laws do not speak of silence ages, but that an entry not PRESENT has none. -/
theorem aged {t : Table} (ht : t.Lawful) : t.aged.Lawful := by
  refine ht.of_naming_le (fun a => ?_) (fun a x => ?_)
  · rw [Table.at_aged]
    split_ifs with h
    · exact (ht.entries a).lessen (Entry.isPresent_iff.mp h) (.refl _) (ht.entries a).covered
    · exact ht.entries a
  · rw [Table.at_aged]
    split_ifs <;> exact le_rfl

theorem heard {t : Table} (ht : t.Lawful) (a : Address) : (t.heard a).Lawful := by
  refine ht.put ⟨fun hp => ?_, (ht.entries a).four, (ht.entries a).named, (ht.entries a).covered⟩
    fun _ => le_rfl
  have hc := (ht.entries a).cleared hp
  dsimp only
  rw [hc]; rfl

end Table.Lawful

/-! ### Pushes (R5) -/

/-- What a push keeps of the laws, whatever the owner holds: the shape of the owner's stack (R23) and
the shed depths (R24). -/
structure Table.Stacked (t : Table) (owner : Address) : Prop where
  four : (t.at owner).debts.length ≤ 4
  named : ∀ d ∈ (t.at owner).debts, d.creditor ≠ owner ∧ 1 ≤ d.units
  depths : ∀ x, t.shedDepth x ≤ 4

theorem Table.Lawful.stacked {t : Table} (ht : t.Lawful) (owner : Address) : t.Stacked owner :=
  ⟨(ht.entries owner).four, (ht.entries owner).named, ht.depths⟩

/-- When a push is made (R5). -/
theorem Table.pushMade_iff {t : Table} {owner creditor : Address} {units : Nat} :
    t.pushMade owner creditor units = true ↔ units ≠ 0 ∧ creditor ≠ owner ∧
      (t.at creditor).presence ≠ .absent ∧ t.shedDepth creditor < 4 := by
  simp [Table.pushMade, and_assoc]

/-- A push makes a stack of its owner's newest records and the new one, or leaves the table. -/
theorem Table.push_cases (t : Table) (owner creditor : Address) (units : Nat) :
    t.push owner creditor units = t ∨
    t.pushMade owner creditor units = true ∧ ∃ kept, kept.length ≤ 3 ∧
      kept.Sublist (t.at owner).debts ∧ t.push owner creditor units =
        t.put owner { t.at owner with debts := kept ++ [⟨creditor, units⟩] } := by
  unfold Table.push
  split_ifs with h
  · exact .inr ⟨h, _, by rw [List.length_drop]; omega, List.drop_sublist _ _, rfl⟩
  · exact .inl rfl

/-- A push changes nothing of an entry but its stack. -/
theorem Table.at_push (t : Table) (owner creditor : Address) (units : Nat) (a : Address) :
    (t.push owner creditor units).at a =
      { t.at a with debts := ((t.push owner creditor units).at a).debts } := by
  unfold Table.push
  split_ifs
  · rw [Table.at_put]
    split_ifs with h
    · rw [h]
    · rfl
  · rfl

/-- A push adds no more than its units to what the owner owes. -/
theorem Table.owed_push_le (t : Table) (owner creditor : Address) (units : Nat) :
    owed ((t.push owner creditor units).at owner).debts ≤ owed (t.at owner).debts + units := by
  obtain h | ⟨-, kept, -, hsub, h⟩ := t.push_cases owner creditor units <;> rw [h]
  · exact Nat.le_add_right _ _
  · have hkept : owed kept ≤ owed (t.at owner).debts :=
      (hsub.map _).sum_le_sum fun _ _ => Nat.zero_le _
    simpa using hkept

theorem Table.Stacked.push {t : Table} {owner : Address} (h : t.Stacked owner) (creditor : Address)
    (units : Nat) : (t.push owner creditor units).Stacked owner := by
  obtain hp | ⟨hmade, kept, hlen, hsub, hp⟩ := t.push_cases owner creditor units <;> rw [hp]
  · exact h
  · obtain ⟨hunits, hown, -, hdepth⟩ := Table.pushMade_iff.mp hmade
    refine ⟨by simp; omega, ?_, fun x => ?_⟩
    · simp only [Table.at_put_self, List.mem_append, List.mem_singleton]
      rintro d (hd | rfl)
      · exact h.named d (hsub.subset hd)
      · exact ⟨hown, Nat.one_le_iff_ne_zero.mpr hunits⟩
    · have hput := t.shedDepth_put owner x
        { t.at owner with debts := kept ++ [⟨creditor, units⟩] }
      have hcount := hsub.countP_le (p := fun d => d.creditor == x)
      have hx := h.depths x
      have hnew : Entry.naming { t.at owner with debts := kept ++ [⟨creditor, units⟩] } x ≤
          (t.at owner).naming x + if creditor = x then 1 else 0 := by
        unfold Entry.naming Entry.isPresent
        dsimp only
        have hkept := hsub.countP_le (p := fun d => d.creditor == x)
        by_cases hc : creditor = x <;> split_ifs <;> simp [hc, hkept]
      split_ifs at hnew with hc
      · subst hc; omega
      · omega

/-- Records pushed one after the other. -/
def Table.pushAll (t : Table) (owner : Address) (records : List DebtRecord) : Table :=
  records.foldl (fun u r => u.push owner r.creditor r.units) t

@[simp] theorem Table.pushAll_nil (t : Table) (owner : Address) : t.pushAll owner [] = t := rfl

@[simp] theorem Table.pushAll_cons (t : Table) (owner : Address) (r : DebtRecord)
    (rs : List DebtRecord) :
    t.pushAll owner (r :: rs) = (t.push owner r.creditor r.units).pushAll owner rs := rfl

theorem Table.Stacked.pushAll {t : Table} {owner : Address} (h : t.Stacked owner)
    (records : List DebtRecord) : (t.pushAll owner records).Stacked owner := by
  induction records generalizing t with
  | nil => exact h
  | cons r rs ih => exact ih (h.push _ _)

theorem Table.at_pushAll_of_ne {owner a : Address} (ha : a ≠ owner) (t : Table)
    (records : List DebtRecord) : (t.pushAll owner records).at a = t.at a := by
  induction records generalizing t with
  | nil => rfl
  | cons r rs ih => rw [Table.pushAll_cons, ih, Table.at_push_of_ne ha]

theorem Table.at_pushAll_self (t : Table) (owner : Address) (records : List DebtRecord) :
    ∃ ds, (t.pushAll owner records).at owner = { t.at owner with debts := ds } := by
  induction records generalizing t with
  | nil => exact ⟨_, rfl⟩
  | cons r rs ih =>
    obtain ⟨ds, h⟩ := ih (t.push owner r.creditor r.units)
    exact ⟨ds, by rw [Table.pushAll_cons, h, Table.at_push]⟩

@[simp] theorem Table.held_pushAll (t : Table) (owner : Address) (records : List DebtRecord) :
    (t.pushAll owner records).held = t.held := by
  induction records generalizing t with
  | nil => rfl
  | cons r rs ih => rw [Table.pushAll_cons, ih, Table.held_push]

theorem Table.owed_pushAll_le (t : Table) (owner : Address) (records : List DebtRecord) :
    owed ((t.pushAll owner records).at owner).debts ≤ owed (t.at owner).debts + owed records := by
  induction records generalizing t with
  | nil => simp
  | cons r rs ih =>
    have hpush := t.owed_push_le owner r.creditor r.units
    have hrest := ih (t.push owner r.creditor r.units)
    rw [Table.pushAll_cons, owed_cons]
    omega

/-- A table is lawful where the owner of the pushes is PRESENT and owes no more than it holds, and
every other entry is lawful. -/
theorem Table.Stacked.lawful {t : Table} {owner : Address} (h : t.Stacked owner)
    (hp : (t.at owner).presence = .present) (hc : owed (t.at owner).debts ≤ (t.at owner).holding)
    (ho : ∀ a, a ≠ owner → (t.at a).Lawful a) : t.Lawful where
  entries a := by
    by_cases ha : a = owner
    · exact ha ▸ ⟨fun hn => absurd hp hn, h.four, h.named, hc⟩
    · exact ho a ha
  depths := h.depths

/-! ### CLAIM (R31, R32, R62) -/

/-- An entry that loses units, its stack trimmed (R31). -/
def Entry.losing (e : Entry) (n : Nat) : Entry :=
  { e with holding := e.holding - n, debts := trimTo (e.holding - n) e.debts }

/-- A claimant's entry with its gain and its want (R32). -/
def Entry.gaining (e : Entry) (want n : Nat) : Entry :=
  { e with holding := e.holding + n, want := want }

theorem Table.lose_eq (t : Table) (v : Victim) :
    t.lose v = if (t.at v.victim).isPresent then t.put v.victim ((t.at v.victim).losing v.units)
      else t := rfl

theorem Table.Lawful.lose {t : Table} (ht : t.Lawful) (v : Victim) : (t.lose v).Lawful := by
  rw [Table.lose_eq]
  split_ifs with h
  · have hp := Entry.isPresent_iff.mp h
    exact ht.put_lessened hp hp (lessened_trimTo _ _) (owed_trimTo_le _ _)
  · exact ht

theorem Table.Lawful.loseAll {t : Table} (ht : t.Lawful) (victims : List Victim) :
    (victims.foldl Table.lose t).Lawful := by
  induction victims generalizing t with
  | nil => exact ht
  | cons v vs ih => exact ih (ht.lose v)

/-- The records a CLAIM pushes (R32). -/
def claimRecords (victims : List Victim) : List DebtRecord := victims.map fun v => ⟨v.victim, v.units⟩

theorem owed_claimRecords (victims : List Victim) : owed (claimRecords victims) = takenBy victims := by
  simp [owed, claimRecords, takenBy, Function.comp_def]

/-- A CLAIM in two parts: the victims' losses, then what a PRESENT claimant gains. -/
theorem Table.applyClaim_eq (t : Table) (d : Address) (want n : Nat) (victims : List Victim) :
    t.applyClaim d want n victims =
      if ((victims.foldl Table.lose t).at d).isPresent then
        ((victims.foldl Table.lose t).put d
          (((victims.foldl Table.lose t).at d).gaining want n)).pushAll d (claimRecords victims)
      else victims.foldl Table.lose t := by
  unfold Table.applyClaim Table.pushAll claimRecords
  rw [List.foldl_map]
  rfl

/-- A PRESENT claimant's gain covers the records of what its victims give. -/
theorem Table.Lawful.gain {t : Table} (ht : t.Lawful) {d : Address}
    (hp : (t.at d).presence = .present) (want : Nat) {n : Nat} {victims : List Victim}
    (hn : takenBy victims ≤ n) :
    ((t.put d ((t.at d).gaining want n)).pushAll d (claimRecords victims)).Lawful := by
  have hcov := (ht.entries d).covered
  have hraised : (t.put d ((t.at d).gaining want n)).Lawful :=
    ht.put_lessened hp hp (.refl _) (hcov.trans (Nat.le_add_right _ _))
  have howed := (t.put d ((t.at d).gaining want n)).owed_pushAll_le d (claimRecords victims)
  obtain ⟨ds, hd⟩ := (t.put d ((t.at d).gaining want n)).at_pushAll_self d (claimRecords victims)
  refine ((hraised.stacked d).pushAll _).lawful ?_ ?_ fun a ha => ?_
  · rw [hd, Table.at_put_self]; exact hp
  · rw [hd, owed_claimRecords, Table.at_put_self] at howed
    rw [hd, Table.at_put_self]
    simp only [Entry.gaining] at howed ⊢
    omega
  · rw [Table.at_pushAll_of_ne ha]; exact hraised.entries a

/-- A CLAIM whose victims give no more than its increment keeps the laws. -/
theorem Table.Lawful.applyClaim {t : Table} (ht : t.Lawful) (d : Address) (want : Nat) {n : Nat}
    {victims : List Victim} (hn : takenBy victims ≤ n) :
    (t.applyClaim d want n victims).Lawful := by
  rw [Table.applyClaim_eq]
  split_ifs with h
  · exact (ht.loseAll victims).gain (Entry.isPresent_iff.mp h) want hn
  · exact ht.loseAll victims

/-- A loss changes the victim's entry alone. -/
theorem Table.at_lose_of_ne {t : Table} {v : Victim} {a : Address} (h : a ≠ v.victim) :
    (t.lose v).at a = t.at a := by
  rw [Table.lose_eq]
  split_ifs
  · exact Table.at_put_of_ne h _ _
  · rfl

theorem Table.at_loseAll_of_not_mem {victims : List Victim} {a : Address}
    (h : a ∉ victims.map (·.victim)) (t : Table) : (victims.foldl Table.lose t).at a = t.at a := by
  induction victims generalizing t with
  | nil => rfl
  | cons v vs ih =>
    simp only [List.map_cons, List.mem_cons, not_or] at h
    rw [List.foldl_cons, ih h.2, Table.at_lose_of_ne h.1]

/-- A PRESENT victim that holds what is taken loses it all. -/
theorem Table.held_lose {t : Table} {v : Victim} (hp : (t.at v.victim).presence = .present)
    (hu : v.units ≤ (t.at v.victim).holding) : (t.lose v).held + v.units = t.held := by
  have hput := t.held_put v.victim ((t.at v.victim).losing v.units)
  rw [Entry.share_of_present hp, Entry.share_of_present (show (Entry.losing _ _).presence = _ from hp)]
    at hput
  rw [Table.lose_eq, if_pos (Entry.isPresent_iff.mpr hp)]
  simp only [Entry.losing] at hput ⊢
  omega

/-- What a victim list can take in full: its stations differ, are PRESENT and hold what it takes. -/
structure Table.Takes (t : Table) (victims : List Victim) : Prop where
  nodup : (victims.map (·.victim)).Nodup
  holds : ∀ v ∈ victims, (t.at v.victim).presence = .present ∧ v.units ≤ (t.at v.victim).holding

/-- Such victims lose all that the list takes. -/
theorem Table.Takes.held_loseAll {t : Table} {victims : List Victim} (h : t.Takes victims) :
    (victims.foldl Table.lose t).held + takenBy victims = t.held := by
  induction victims generalizing t with
  | nil => simp [takenBy]
  | cons v vs ih =>
    obtain ⟨hv, hnd⟩ := List.nodup_cons.mp h.nodup
    obtain ⟨⟨hp, hu⟩, hrest⟩ := List.forall_mem_cons.mp h.holds
    have hfirst := Table.held_lose hp hu
    have hat : ∀ w ∈ vs, (t.lose v).at w.victim = t.at w.victim := fun w hw =>
      Table.at_lose_of_ne fun he => hv (List.mem_map.mpr ⟨w, hw, he⟩)
    have hothers := ih (t := t.lose v) ⟨hnd, fun w hw => by rw [hat w hw]; exact hrest w hw⟩
    have hsum : takenBy (v :: vs) = v.units + takenBy vs := rfl
    rw [List.foldl_cons, hsum]
    omega

/-- What a CLAIM does to the sum of the holdings, where its claimant is no victim of its own. -/
theorem Table.Takes.held_applyClaim {t : Table} {victims : List Victim} (h : t.Takes victims)
    {d : Address} (hp : (t.at d).presence = .present) (hd : d ∉ victims.map (·.victim))
    (want n : Nat) : (t.applyClaim d want n victims).held + takenBy victims = t.held + n := by
  have hlost := h.held_loseAll
  have hat := Table.at_loseAll_of_not_mem hd t
  have hput := (victims.foldl Table.lose t).held_put d ((t.at d).gaining want n)
  rw [hat, Entry.share_of_present hp,
    Entry.share_of_present (show (Entry.gaining _ _ _).presence = _ from hp)] at hput
  rw [Table.applyClaim_eq, hat, if_pos (Entry.isPresent_iff.mpr hp), Table.held_pushAll]
  simp only [Entry.gaining] at hput ⊢
  omega

/-! ### The victims of a claim (R29, R30) -/

theorem Entry.excess_le_holding (e : Entry) : e.excess ≤ e.holding := by
  unfold Entry.excess; split_ifs <;> omega

/-- The victims listed are the first of those considered. -/
theorem Table.victims_takeFrom (t : Table) (need : Nat) (xs : List Address) :
    ((t.takeFrom need xs).map (·.victim)).Sublist xs := by
  induction xs generalizing need with
  | nil => exact List.Sublist.refl _
  | cons a xs ih =>
    unfold Table.takeFrom
    split_ifs
    · exact List.nil_sublist _
    · exact (ih _).cons_cons a

/-- A victim gives no more than its excess. -/
theorem Table.units_takeFrom_le (t : Table) (need : Nat) (xs : List Address) :
    ∀ v ∈ t.takeFrom need xs, v.units ≤ (t.at v.victim).excess := by
  induction xs generalizing need with
  | nil => exact fun v hv => absurd hv List.not_mem_nil
  | cons a xs ih =>
    unfold Table.takeFrom
    split_ifs
    · exact fun v hv => absurd hv List.not_mem_nil
    · exact List.forall_mem_cons.mpr ⟨Nat.min_le_left _ _, ih _⟩

/-- Victims give what is needed, as far as their excess goes. -/
theorem Table.takenBy_takeFrom (t : Table) (need : Nat) (xs : List Address) :
    takenBy (t.takeFrom need xs) = min need (xs.map fun a => (t.at a).excess).sum := by
  induction xs generalizing need with
  | nil => simp [Table.takeFrom, takenBy]
  | cons a xs ih =>
    unfold Table.takeFrom
    split_ifs with h
    · simp [h, takenBy]
    · have hsum : ∀ v vs, takenBy (v :: vs) = v.units + takenBy vs := fun _ _ => rfl
      rw [hsum, ih, List.map_cons, List.sum_cons]
      dsimp only
      omega

/-- The considered victims differ, are PRESENT, and are not the claimant. -/
theorem Table.considered_spec (t : Table) (d : Address) (c : StationClass) :
    (t.considered d c).Nodup ∧
      ∀ a ∈ t.considered d c, (t.at a).presence = .present ∧ a ≠ d := by
  unfold Table.considered
  constructor
  · have hsorted := (t.eligible d c).perm_insertionSort fun a b => t.victimBefore a b = true
    exact (hsorted.nodup_iff.mpr ((List.nodup_finRange 32).filter _)).sublist (List.take_sublist _ _)
  · intro a ha
    have hmem := (List.mem_insertionSort _).mp (List.mem_of_mem_take ha)
    simp only [Table.eligible, List.mem_filter, Bool.and_eq_true, bne_iff_ne, and_assoc] at hmem
    obtain ⟨-, hp, hne, -⟩ := hmem
    exact ⟨Entry.isPresent_iff.mp hp, hne⟩

/-- The victim list of R30 can be taken in full, and not from the claimant. -/
theorem Table.takes_victimList (t : Table) (budget : Nat) (d : Address) (c : StationClass) (n : Nat) :
    t.Takes (t.victimList budget d c n) ∧
      d ∉ (t.victimList budget d c n).map (·.victim) := by
  obtain ⟨hnd, hall⟩ := t.considered_spec d c
  have hsub := t.victims_takeFrom (n - t.free budget) (t.considered d c)
  refine ⟨⟨hnd.sublist hsub, fun v hv => ⟨?_, ?_⟩⟩, fun hd => (hall d (hsub.subset hd)).2 rfl⟩
  · exact (hall _ (hsub.subset (List.mem_map_of_mem hv))).1
  · exact (t.units_takeFrom_le _ _ v hv).trans (Entry.excess_le_holding _)

theorem Table.takenBy_victimList (t : Table) (budget : Nat) (d : Address) (c : StationClass)
    (n : Nat) :
    takenBy (t.victimList budget d c n) = min (n - t.free budget) (t.sheddable d c) :=
  t.takenBy_takeFrom _ _

/-- A CLAIM sized and listed as R30 has it keeps the budget law. -/
theorem Table.held_applyClaim_le {t : Table} {budget : Nat} (hb : t.held ≤ budget) {d : Address}
    (hp : (t.at d).presence = .present) {c : StationClass} {n : Nat}
    (hn : n ≤ t.free budget + t.sheddable d c) (want : Nat) :
    (t.applyClaim d want n (t.victimList budget d c n)).held ≤ budget := by
  obtain ⟨htakes, hd⟩ := t.takes_victimList budget d c n
  have hheld := htakes.held_applyClaim hp hd want n
  rw [Table.takenBy_victimList] at hheld
  unfold Table.free at hn hheld
  omega

/-! ### Settlement and RELEASE (R34 to R37, R63) -/

/-- A gift to a PRESENT creditor keeps the laws. -/
theorem Table.Lawful.give {t : Table} (ht : t.Lawful) {c : Address}
    (hp : (t.at c).presence = .present) (units : Nat) : (t.give c units).Lawful :=
  ht.put_lessened hp hp (.refl _) ((ht.entries c).covered.trans (Nat.le_add_right _ _))

theorem Table.present_of_room {t : Table} {keepOut : Option Address} {c : Address}
    (h : t.room keepOut c ≠ 0) : (t.at c).presence = .present := by
  unfold Table.room at h
  split_ifs at h with hc
  · exact Entry.isPresent_iff.mp (Bool.and_eq_true_iff.mp hc).1
  · exact absurd rfl h

theorem Table.Lawful.walk {t : Table} (ht : t.Lawful) (keepOut : Option Address) (n : Nat)
    (ds : List DebtRecord) : (walk keepOut t n ds).table.Lawful := by
  induction ds generalizing t n with
  | nil => exact ht
  | cons d ds ih =>
    unfold Machine.walk
    split_ifs with hn
    · exact ht
    · dsimp only
      split_ifs with hg
      · exact ih ht _
      · have hroom : t.room keepOut d.creditor ≠ 0 := fun h => hg (by rw [h, Nat.min_zero])
        exact ih (ht.give (Table.present_of_room hroom) _) _

/-- A settlement keeps the laws: what is left of the debts is covered by what is left of the holding. -/
theorem Table.Lawful.settled {t : Table} (ht : t.Lawful) (keepOut : Option Address) {d : Address}
    (hp : (t.at d).presence = .present) (k : Nat) : (t.settled keepOut d k).Lawful := by
  have hcov := (ht.entries d).covered
  have hleft := walk_left_owed keepOut t k (t.at d).debts.reverse
  obtain ⟨h, hh, hat⟩ := walk_table_at keepOut t k (t.at d).debts.reverse d
  have hpw : ((t.walkOf keepOut d k).table.at d).presence = .present := by
    rw [Table.walkOf, hat]; exact hp
  refine (ht.walk keepOut k _).put_lessened hpw hpw ?_ ?_
  · have hl := (lessened_walk keepOut t k (t.at d).debts.reverse).reverse
    rw [List.reverse_reverse] at hl
    rw [hat]; exact hl
  · dsimp only
    rw [owed_reverse, Table.walkOf, hleft, hat, owed_reverse]
    dsimp only
    omega

/-- A settlement of no more than the holding gives no more than it frees. -/
theorem Table.held_settled_le {t : Table} (keepOut : Option Address) {d : Address}
    (hp : (t.at d).presence = .present) {k : Nat} (hk : k ≤ (t.at d).holding) :
    (t.settled keepOut d k).held ≤ t.held := by
  have hwalk := walk_held_le keepOut t k (t.at d).debts.reverse
  obtain ⟨h, hh, hat⟩ := walk_table_at keepOut t k (t.at d).debts.reverse d
  have hput := (t.walkOf keepOut d k).table.held_put d { (t.walkOf keepOut d k).table.at d with
    holding := ((t.walkOf keepOut d k).table.at d).holding - k
    debts := (t.walkOf keepOut d k).left.reverse }
  unfold Table.settled
  simp only [Table.walkOf, hat, Entry.share, Entry.isPresent, hp] at hput ⊢
  simp only [beq_self_eq_true, if_true] at hput
  omega

theorem Table.Lawful.applyRelease {t : Table} (ht : t.Lawful) {d : Address}
    (hp : (t.at d).presence = .present) (want k : Nat) : (t.applyRelease d want k).Lawful := by
  have hs := ht.settled none hp k
  have hps : ((t.settled none d k).at d).presence = .present := by
    obtain ⟨h, -, hat⟩ := walk_table_at none t k (t.at d).debts.reverse d
    unfold Table.settled
    rw [Table.at_put_self, Table.walkOf, hat]
    exact hp
  exact hs.put_lessened hps hps (.refl _) (hs.entries d).covered

theorem Table.held_applyRelease_le {t : Table} {d : Address} (hp : (t.at d).presence = .present)
    {k : Nat} (hk : k ≤ (t.at d).holding) (want : Nat) :
    (t.applyRelease d want k).held ≤ t.held := by
  have hput := (t.settled none d k).held_put d { (t.settled none d k).at d with want := want }
  have hshare : Entry.share { (t.settled none d k).at d with want := want } =
      ((t.settled none d k).at d).share := rfl
  exact (Nat.add_right_cancel (hshare ▸ hput)).trans_le (Table.held_settled_le none hp hk)

theorem Table.Lawful.gatherGift {t : Table} (ht : t.Lawful) (own : Address) (x : Settlement) :
    (t.gatherGift own x).Lawful := by
  unfold Table.gatherGift
  split_ifs with h
  · exact ht.give (Entry.isPresent_iff.mp (Bool.and_eq_true_iff.mp h).1) _
  · exact ht

theorem Table.Lawful.gatherGifts {t : Table} (ht : t.Lawful) (own : Address)
    (list : List Settlement) : (list.foldl (Table.gatherGift own) t).Lawful := by
  induction list generalizing t with
  | nil => exact ht
  | cons x xs ih => exact ih (ht.gatherGift own x)

theorem Table.Lawful.gatherRelease {t : Table} (ht : t.Lawful) (own d : Address) (want k : Nat)
    (list : List Settlement) : (t.gatherRelease own d want k list).Lawful := by
  unfold Table.gatherRelease
  dsimp only
  split_ifs with h
  · have hp := Entry.isPresent_iff.mp h
    refine Table.Lawful.gatherGifts (ht.put_lessened hp ?_ ?_ ?_) own list
    · exact hp
    · exact (lessened_reduceAll list _).trans (lessened_trimTo _ _)
    · exact owed_trimTo_le _ _
  · exact ht.gatherGifts own list

/-! ### EVICT (R38, R64) -/

/-- An entry without a holding adds nothing to the sum. -/
theorem Table.held_put_le_of_no_holding (t : Table) (a : Address) {e : Entry} (h : e.holding = 0) :
    (t.put a e).held ≤ t.held := by
  have hput := t.held_put a e
  have hshare : e.share = 0 := by unfold Entry.share; split_ifs <;> simp [h]
  omega

theorem Table.Lawful.evict {t : Table} (ht : t.Lawful) (keepOut : Option Address) (x : Address) :
    (t.evict keepOut x).Lawful := by
  unfold Table.evict
  split
  case h_1 hp => exact ((ht.settled keepOut hp _).forgive x).put_cleared x .absent
  case h_2 => exact (ht.forgive x).put_cleared x .absent
  case h_3 => exact ht

theorem Table.held_evict_le (t : Table) (keepOut : Option Address) (x : Address) :
    (t.evict keepOut x).held ≤ t.held := by
  unfold Table.evict
  split
  case h_1 hp =>
    refine (Table.held_put_le_of_no_holding _ x rfl).trans ?_
    rw [Table.held_forgive]
    exact Table.held_settled_le keepOut hp le_rfl
  case h_2 =>
    refine (Table.held_put_le_of_no_holding _ x rfl).trans ?_
    rw [Table.held_forgive]
  case h_3 => exact le_rfl

theorem Eviction.next_table (keepOut : Option Address) (own : Address) (v : Eviction) (x : Address) :
    (v.next keepOut own x).table = v.table.evict keepOut x := by
  unfold Eviction.next; split_ifs <;> rfl

/-- The table of an EVICT: its addresses one after the other (R38). -/
theorem Table.evictAll_table (t : Table) (keepOut : Option Address) (own : Address)
    (xs : List Address) :
    (t.evictAll keepOut own xs).table = xs.foldl (fun u x => u.evict keepOut x) t := by
  suffices ∀ v : Eviction, (xs.foldl (Eviction.next keepOut own) v).table =
      xs.foldl (fun u x => u.evict keepOut x) v.table from this _
  induction xs with
  | nil => exact fun _ => rfl
  | cons x xs ih => exact fun v => by rw [List.foldl_cons, ih, Eviction.next_table, List.foldl_cons]

theorem Table.Lawful.evictAll {t : Table} (ht : t.Lawful) (keepOut : Option Address) (own : Address)
    (xs : List Address) : (t.evictAll keepOut own xs).table.Lawful := by
  rw [Table.evictAll_table]
  induction xs generalizing t with
  | nil => exact ht
  | cons x xs ih => exact ih (ht.evict keepOut x)

theorem Table.held_evictAll_le (t : Table) (keepOut : Option Address) (own : Address)
    (xs : List Address) : (t.evictAll keepOut own xs).table.held ≤ t.held := by
  rw [Table.evictAll_table]
  induction xs generalizing t with
  | nil => exact le_rfl
  | cons x xs ih => exact (ih _).trans (t.held_evict_le keepOut x)

/-! ### ANNOUNCE (R40, R41, R65) -/

theorem Table.Lawful.applyPlain {t : Table} (ht : t.Lawful) (f : Frame) (floor want : Nat) :
    (t.applyPlain f floor want).Lawful := by
  unfold Table.applyPlain
  split_ifs with h
  · have hp := Entry.isPresent_iff.mp h
    exact ht.put_lessened hp hp (.refl _) (ht.entries _).covered
  · exact ht.put_no_debts rfl rfl

theorem Table.held_applyPlain_le (t : Table) (f : Frame) (floor want : Nat) :
    (t.applyPlain f floor want).held ≤ t.held := by
  unfold Table.applyPlain
  split_ifs with h
  · have hput := t.held_put f.sender { t.at f.sender with want := want }
    have hshare : Entry.share { t.at f.sender with want := want } = (t.at f.sender).share := rfl
    omega
  · exact t.held_put_le_of_no_holding _ rfl

theorem Table.Lawful.applyRejoin {t : Table} (ht : t.Lawful) (keepOut : Option Address) (f : Frame)
    (floor want : Nat) : (t.applyRejoin keepOut f floor want).Lawful := by
  unfold Table.applyRejoin
  dsimp only
  split_ifs with h
  · exact ((ht.settled keepOut (Entry.isPresent_iff.mp h) _).forgive _).put_no_debts rfl rfl
  · exact (ht.forgive _).put_no_debts rfl rfl

theorem Table.held_applyRejoin_le (t : Table) (keepOut : Option Address) (f : Frame)
    (floor want : Nat) : (t.applyRejoin keepOut f floor want).held ≤ t.held := by
  unfold Table.applyRejoin
  refine (Table.held_put_le_of_no_holding _ _ rfl).trans ?_
  rw [Table.held_forgive]
  split_ifs with h
  · exact Table.held_settled_le keepOut (Entry.isPresent_iff.mp h) le_rfl
  · exact le_rfl

/-- The owner of a stack trimmed to its holding makes the table lawful, where the others are. -/
theorem Table.Stacked.lawful_trim {t : Table} {owner : Address} (h : t.Stacked owner)
    (hp : (t.at owner).presence = .present) (ho : ∀ a, a ≠ owner → (t.at a).Lawful a) :
    (t.put owner { t.at owner with
      debts := trimTo (t.at owner).holding (t.at owner).debts }).Lawful := by
  have hl := lessened_trimTo (t.at owner).holding (t.at owner).debts
  refine Table.Stacked.lawful (owner := owner) ⟨?_, ?_, fun x => ?_⟩ ?_ ?_ fun a ha => ?_
  · rw [Table.at_put_self]; exact hl.length_le.trans h.four
  · rw [Table.at_put_self]; exact hl.named h.named
  · refine (Table.shedDepth_mono fun a => ?_).trans (h.depths x)
    rw [Table.at_put]
    split_ifs with ha
    · rw [ha]; refine Entry.naming_le ?_ hl x; rfl
    · exact le_rfl
  · rw [Table.at_put_self]; exact hp
  · rw [Table.at_put_self]; exact owed_trimTo_le _ _
  · rw [Table.at_put_of_ne ha]; exact ho a ha

/-- The entry a plain ANNOUNCE makes before its debt list is copied (R65). -/
def Frame.entry (f : Frame) (floor want holding : Nat) : Entry :=
  { presence := .present, cls := classOfRank f.rank, floor := floor, want := want,
    holding := holding, debts := [], age := 0 }

theorem Table.gatherPlain_eq (t : Table) (f : Frame) (floor want holding : Nat)
    (debts : List DebtRecord) :
    let pushed := (t.put f.sender (f.entry floor want holding)).pushAll f.sender debts
    t.gatherPlain f floor want holding debts = pushed.put f.sender { pushed.at f.sender with
      debts := trimTo holding (pushed.at f.sender).debts } := rfl

/-- The entry a plain ANNOUNCE met in GATHER brings keeps the laws whatever its debt list: the pushes
see to R23 and R24, the trimming to what the holding covers. -/
theorem Table.Lawful.gatherPlain {t : Table} (ht : t.Lawful) (f : Frame) (floor want holding : Nat)
    (debts : List DebtRecord) : (t.gatherPlain f floor want holding debts).Lawful := by
  have hfresh : (t.put f.sender (f.entry floor want holding)).Lawful := ht.put_no_debts rfl rfl
  obtain ⟨ds, hat⟩ := (t.put f.sender (f.entry floor want holding)).at_pushAll_self f.sender debts
  rw [Table.at_put_self] at hat
  have hholding : ((Table.pushAll (t.put f.sender (f.entry floor want holding)) f.sender debts).at
      f.sender).holding = holding := by rw [hat]; rfl
  have htrim := ((hfresh.stacked f.sender).pushAll debts).lawful_trim (by rw [hat]; rfl)
    fun a ha => by rw [Table.at_pushAll_of_ne ha]; exact hfresh.entries a
  rw [Table.gatherPlain_eq]
  rw [hholding] at htrim
  exact htrim

/-! ### The whole application of a frame -/

/-- A frame that follows from the table keeps its laws (R26, R50). -/
theorem Table.Lawful.applyActive {t : Table} (ht : t.Lawful) {budget : Nat} {f : Frame}
    (hc : t.contentAgrees budget f = true) (own : Address) : (t.applyActive own f).table.Lawful := by
  unfold Table.contentAgrees at hc
  unfold Table.applyActive
  split
  case h_1 => exact ht
  case h_2 xs _ => exact ht.evictAll none own xs
  case h_3 want k list hf =>
    simp only [hf, Bool.and_eq_true, and_assoc] at hc
    obtain ⟨hp, -⟩ := hc
    exact ht.applyRelease (Entry.isPresent_iff.mp hp) want k
  case h_4 want n victims hf =>
    simp only [hf, Bool.and_eq_true, beq_iff_eq] at hc
    obtain ⟨-, hv⟩ := hc
    refine ht.applyClaim f.sender want ?_
    rw [hv, Table.takenBy_victimList]
    omega
  case h_5 => exact ht.applyRejoin none f _ _
  case h_6 => exact ht.applyPlain f _ _

/-- A frame that follows from the table keeps the budget law (R22). -/
theorem Table.held_applyActive_le {t : Table} {budget : Nat} (hb : t.held ≤ budget) {f : Frame}
    (hc : t.contentAgrees budget f = true) (own : Address) :
    (t.applyActive own f).table.held ≤ budget := by
  unfold Table.contentAgrees at hc
  unfold Table.applyActive
  split
  case h_1 => exact hb
  case h_2 xs _ => exact (t.held_evictAll_le none own xs).trans hb
  case h_3 want k list hf =>
    simp only [hf, Bool.and_eq_true, decide_eq_true_eq, and_assoc] at hc
    obtain ⟨hp, -, -, hk, -⟩ := hc
    exact (Table.held_applyRelease_le (Entry.isPresent_iff.mp hp) hk want).trans hb
  case h_4 want n victims hf =>
    simp only [hf, Bool.and_eq_true, decide_eq_true_eq, beq_iff_eq, and_assoc] at hc
    obtain ⟨hp, -, -, -, hn, hv⟩ := hc
    rw [hv]
    exact Table.held_applyClaim_le hb (Entry.isPresent_iff.mp hp) hn want
  case h_5 => exact (t.held_applyRejoin_le none f _ _).trans hb
  case h_6 => exact (t.held_applyPlain_le f _ _).trans hb

/-- A frame met in GATHER keeps the laws of the stacks, a CLAIM where its victims give no more than its
increment (R61 to R66). -/
theorem Table.Lawful.applyGather {t : Table} (ht : t.Lawful) {f : Frame} (hf : f.Covered)
    (own : Address) : (t.applyGather own f).table.Lawful := by
  unfold Frame.Covered at hf
  unfold Table.applyGather
  split
  case h_1 => exact ht
  case h_2 xs _ => exact ht.evictAll (some own) own xs
  case h_3 want k list _ => exact ht.gatherRelease own f.sender want k list
  case h_4 want n victims hp =>
    rw [hp] at hf
    exact ht.applyClaim f.sender want hf
  case h_5 => exact ht.applyRejoin (some own) f _ _
  case h_6 => exact ht.gatherPlain f _ _ _ _

end Sys2Proof.Machine
end

section
/-! What each command can do to the grant table, the configuration and the participation state. -/

namespace Sys2Proof

/-- The commands of a reset and of the load (chapter 9). -/
def Instr.isStartUp : Instr → Bool
  | .reset _ | .resetEnd | .clockReady _ _ _ | .attemptFailed _ | .retryWaitExpiry _
  | .attemptComplete _ => true
  | _ => false

/-- The commands of the monitor port (chapter 10). -/
def Instr.isMonitor : Instr → Bool
  | .ncsFall | .ncsRise | .status | .entry _ | .counters | .events | .clear | .unknownCommand _ _
  | .sckEdge _ _ => true
  | _ => false

end Sys2Proof

namespace Sys2Proof.Machine

/-! ### Operations that leave setup, table and participation state alone -/

/-- The setup, the table and the participation state are as before. -/
structure Quiet (s t : State) : Prop where
  rst : t.rst = s.rst
  loader : t.loader = s.loader
  config : t.config = s.config
  pending : t.pending = s.pending
  table : t.table = s.table
  state : t.part.state = s.part.state

namespace Quiet

theorem refl (s : State) : Quiet s s := ⟨rfl, rfl, rfl, rfl, rfl, rfl⟩

theorem trans {s t u : State} (h : Quiet s t) (k : Quiet t u) : Quiet s u :=
  ⟨k.rst.trans h.rst, k.loader.trans h.loader, k.config.trans h.config, k.pending.trans h.pending,
    k.table.trans h.table, k.state.trans h.state⟩

theorem setup {s t : State} (h : Quiet s t) : SameSetup s t := ⟨h.rst, h.loader, h.config, h.pending⟩

theorem own {s t : State} (h : Quiet s t) : t.own = s.own := by rw [State.own, h.loader]; rfl

/-- The line alone is written. -/
theorem line (s : State) (l : LineInterface) : Quiet s { s with line := l } :=
  ⟨rfl, rfl, rfl, rfl, rfl, rfl⟩

theorem react (s : State) : Quiet s s.react := by constructor <;> simp

theorem place (s : State) (r : Request) : Quiet s (s.place r) := by constructor <;> simp

theorem decideDemand (s : State) : Quiet s s.decideDemand := by constructor <;> simp

theorem decideSince (s before : State) : Quiet s (s.decideSince before) := by constructor <;> simp

theorem endFrame (s : State) (p : LinePosition) : Quiet s (s.endFrame p) := .line s _

theorem raiseIf (s : State) (c : Bool) (f : EventFlag) : Quiet s (s.raiseIf c f) := by
  constructor <;> simp

theorem count (s : State) (c : CounterName) (n : Nat) : Quiet s (s.count c n) := by
  constructor <;> simp

end Quiet

theorem SameSetup.trans {s t u : State} (h : SameSetup s t) (k : SameSetup t u) : SameSetup s u :=
  ⟨k.rst.trans h.rst, k.loader.trans h.loader, k.config.trans h.config, k.pending.trans h.pending⟩

/-! ### The moments at which the table changes (R21) -/

/-- What a command did to the table: nothing, the ages alone, or the change of one of the moments of
R21. -/
inductive TableMove (c : Instr) (s t : State) : Prop where
  | same (table : t.table = s.table)
  | aged (table : t.table = s.table.aged)
  | confirmedActive {ack : Bit} {f : Frame} (cmd : c = .frameConfirmed ack)
      (slot : s.slotFrame = some f) (agrees : s.agreesWith f = true)
      (table : t.table = (s.table.applyActive s.own f).table.heard f.sender)
  | confirmedGather {ack : Bit} {f : Frame} (cmd : c = .frameConfirmed ack)
      (slot : s.slotFrame = some f) (gather : s.part.state.isGather = true)
      (budget : (s.table.applyGather s.own f).table.held ≤ s.cfg.budget)
      (table : t.table = (s.table.applyGather s.own f).table.heard f.sender)
  | entersGather {evicted : Bool} (before : s.part.state.isGather = false)
      (after : t.part.state = .gather .window)
      (table : t.table = s.table.forGather s.own evicted)
  | closesWindow {u : Table} (before : s.part.state = .gather .window)
      (after : t.part.state = .gather .rejoin) (ages : u = s.table ∨ u = s.table.aged)
      (table : t.table = u.closed)
  | sleeps (before : s.power.state = .listen) (after : t.part.state = .sleep)
      (table : t.table = Table.allAbsent)
  | resets (cmd : (∃ cause, c = .reset cause) ∨ c = .resetEnd) (table : t.table = Table.allAbsent)

/-- What a command of the running station does: the setup stands, the station does not halt with cause
CONFIG, and the table makes one of its moves. -/
structure Running (c : Instr) (s t : State) : Prop where
  setup : SameSetup s t
  halted : t.part.state = .halted .config → s.part.state = .halted .config
  move : TableMove c s t

theorem Quiet.running {s t : State} (h : Quiet s t) (c : Instr) : Running c s t :=
  ⟨h.setup, fun ht => h.state ▸ ht, .same h.table⟩

theorem Running.refl (c : Instr) (s : State) : Running c s s := (Quiet.refl s).running c

/-- The table and the setup stand, and the participation state is another than HALTED with cause
CONFIG. -/
theorem Running.of_same_table {s t : State} (c : Instr) (hs : SameSetup s t)
    (hp : t.part.state ≠ .halted .config) (ht : t.table = s.table) : Running c s t :=
  ⟨hs, fun h => absurd h hp, .same ht⟩

/-- The commands guarded by a condition, which change nothing where it fails. -/
theorem next_of_guard {p : Prop} [Decidable p] {u s t : State}
    (h : (if p then .next u else .next s : Host.Outcome State Fault Refusal) = .next t) :
    p ∧ t = u ∨ t = s := by
  split_ifs at h with hp
  · exact .inl ⟨hp, (Host.Outcome.next.inj h).symm⟩
  · exact .inr (Host.Outcome.next.inj h).symm

/-- A guarded command whose effect is quiet. -/
theorem Quiet.of_guard {p : Prop} [Decidable p] {u s t : State}
    (h : (if p then .next u else .next s : Host.Outcome State Fault Refusal) = .next t)
    (hu : Quiet s u) : Quiet s t := by
  obtain ⟨-, rfl⟩ | rfl := next_of_guard h
  · exact hu
  · exact .refl _

/-! ### The monitor port -/

theorem State.take_monitor (s : State) (bits : List Bit) (c : MonitorCommand) :
    ∃ m, s.take bits c = { s with monitor := m } := by
  cases c <;> exact ⟨_, rfl⟩

theorem State.sckRise_monitor (s : State) (tr : Transaction) (mosi : Bit) :
    ∃ m, s.sckRise tr mosi = { s with monitor := m } := by
  unfold State.sckRise
  split_ifs
  · exact ⟨_, rfl⟩
  · dsimp only
    split
    · exact s.take_monitor _ _
    · exact ⟨_, rfl⟩

/-- A guarded command whose effect is on the monitor port alone. -/
theorem monitor_of_guard {p : Prop} [Decidable p] {u s t : State}
    (h : (if p then .next u else .next s : Host.Outcome State Fault Refusal) = .next t)
    (hu : ∃ m, u = { s with monitor := m }) : ∃ m, t = { s with monitor := m } := by
  obtain ⟨-, rfl⟩ | rfl := next_of_guard h
  · exact hu
  · exact ⟨_, rfl⟩

/-- The commands of the monitor port change nothing else (R165 to R170). -/
theorem exec_of_isMonitor {c : Instr} {s t : State} (hc : c.isMonitor = true)
    (h : exec c s = .next t) : ∃ m, t = { s with monitor := m } := by
  cases c
  case ncsFall =>
    obtain ⟨-, rfl⟩ | rfl := next_of_guard (p := s.monitor.ncsLow = true) h
    · exact ⟨_, rfl⟩
    · exact ⟨_, rfl⟩
  case ncsRise => exact ⟨_, (Host.Outcome.next.inj h).symm⟩
  case status => exact monitor_of_guard h (s.take_monitor _ _)
  case entry => exact monitor_of_guard h (s.take_monitor _ _)
  case counters => exact monitor_of_guard h (s.take_monitor _ _)
  case events => exact monitor_of_guard h (s.take_monitor _ _)
  case clear => exact monitor_of_guard h (s.take_monitor _ _)
  case unknownCommand => exact monitor_of_guard h (s.take_monitor _ _)
  case sckEdge rising mosi =>
    unfold exec execSckEdge at h
    dsimp only at h
    split at h
    · exact ⟨_, (Host.Outcome.next.inj h).symm⟩
    · refine monitor_of_guard h ?_
      split_ifs
      · exact s.sckRise_monitor _ _
      · exact ⟨_, rfl⟩
  all_goals contradiction

theorem Quiet.of_monitor {s t : State} (h : ∃ m, t = { s with monitor := m }) : Quiet s t := by
  obtain ⟨m, rfl⟩ := h
  exact ⟨rfl, rfl, rfl, rfl, rfl, rfl⟩

/-! ### The equipment side -/

theorem Quiet.isenseResult (s : State) (cutSince : Bool) (code : Nat) :
    Quiet s (s.isenseResult cutSince code) := by
  unfold State.isenseResult State.trip
  split_ifs <;> constructor <;> simp

theorem Quiet.vsenseResult (s : State) (code : Nat) : Quiet s (s.vsenseResult code) := by
  unfold State.vsenseResult State.localSag
  dsimp only
  split_ifs <;> constructor <;> simp

theorem Quiet.leaveListen (s : State) : Quiet s s.leaveListen := by
  unfold State.leaveListen
  split_ifs <;> constructor <;> simp

theorem execConversionReady_quiet {code : ConverterCode} {s t : State}
    (h : execConversionReady code s = .next t) : Quiet s t := by
  have hend : Quiet s s.endConversion := by constructor <;> simp
  unfold execConversionReady at h
  split at h
  · split at h <;> obtain rfl := Host.Outcome.next.inj h
    · exact hend.trans (.isenseResult _ _ _)
    · exact hend.trans (.vsenseResult _ _)
    all_goals exact .refl _
  · obtain rfl := Host.Outcome.next.inj h
    exact .refl _

theorem execOnTimeElapsed_quiet {s t : State} (h : execOnTimeElapsed s = .next t) : Quiet s t := by
  unfold execOnTimeElapsed at h
  split at h
  · obtain rfl := Host.Outcome.next.inj h
    exact .refl _
  · exact .of_guard h (by constructor <;> simp)

theorem execDemandSample_quiet {demand : DemandLevel} {ninhHigh : Bool} {s t : State}
    (h : execDemandSample demand ninhHigh s = .next t) : Quiet s t := by
  refine .of_guard h (Quiet.trans ?_ (((Quiet.leaveListen _).trans (.decideSince _ s)).trans
    (.react _)))
  exact ⟨rfl, rfl, rfl, rfl, rfl, rfl⟩

/-! ### The traffic of the line -/

theorem Quiet.afterWithdrawal (before s : State) : Quiet s (State.afterWithdrawal before s) := by
  unfold State.afterWithdrawal
  split_ifs
  · exact .place _ _
  · exact .refl _
  · exact .decideDemand _
  · exact .refl _

theorem execStartOpportunity_quiet {s t : State} (h : execStartOpportunity s = .next t) :
    Quiet s t := by
  refine .of_guard h (Quiet.trans ?_ (.afterWithdrawal _ _))
  split <;> constructor <;> simp

theorem Quiet.jamOrSeek (s : State) : Quiet s s.jamOrSeek := by
  unfold State.jamOrSeek
  split_ifs <;> constructor <;> simp

theorem execJamRecognised_quiet {bits : List Bit} {s t : State}
    (h : execJamRecognised bits s = .next t) : Quiet s t := by
  refine .of_guard h ?_
  split_ifs
  · exact .jamOrSeek s
  · exact (Quiet.endFrame s _).trans (.count _ _ _)

theorem execTailDominant_quiet {field : TailField} {s t : State}
    (h : execTailDominant field s = .next t) : Quiet s t := by
  unfold execTailDominant at h
  cases field <;> exact .of_guard h (by constructor <;> simp)

theorem execFrameJammed_quiet {s t : State} (h : execFrameJammed s = .next t) : Quiet s t := by
  unfold execFrameJammed at h
  split at h
  · obtain rfl := Host.Outcome.next.inj h
    exact .refl _
  · split_ifs at h <;> obtain rfl := Host.Outcome.next.inj h
    · exact .refl _
    · exact (Quiet.endFrame s _).trans (.count _ _ _)

/-- An error the station takes as its own may make it MUTE, and changes no table (R74, R101). -/
theorem Running.ownError {c : Instr} {s u t : State} (hu : Quiet s u) (ht : Quiet u.ownError t) :
    Running c s t := by
  have hsetup : SameSetup u u.ownError := by constructor <;> simp
  refine ⟨(hu.setup.trans hsetup).trans ht.setup, fun h => ?_,
    .same (by rw [ht.table, State.ownError_table, hu.table])⟩
  rw [ht.state] at h
  obtain ⟨hm, -⟩ | ⟨hk, -⟩ := u.ownError_cases
  · rw [hm, State.enterMute_part] at h
    exact absurd h (by simp)
  · rw [hk] at h
    exact hu.state ▸ h

theorem execBitError_running {bits : List Bit} {s t : State} (c : Instr)
    (h : execBitError bits s = .next t) : Running c s t := by
  unfold execBitError at h
  split at h
  · split at h <;> obtain rfl := Host.Outcome.next.inj h
    · exact .ownError (.endFrame s .seek) (.react _)
    · exact (Quiet.line s _).running c
    all_goals exact .refl c _
  · obtain rfl := Host.Outcome.next.inj h
    exact .refl c _

theorem execBitErrorWatchEnd_running {bits : List Bit} {s t : State} (c : Instr)
    (h : execBitErrorWatchEnd bits s = .next t) : Running c s t := by
  unfold execBitErrorWatchEnd at h
  split at h
  · split at h <;> obtain rfl := Host.Outcome.next.inj h
    · exact ((Quiet.endFrame s .seek).trans (.count _ _ _)).running c
    · exact .ownError (.endFrame s .seek) (.react _)
    · exact .refl c _
  · obtain rfl := Host.Outcome.next.inj h
    exact .refl c _

theorem execFormatError_running {bits : List Bit} {s t : State} (c : Instr)
    (h : execFormatError bits s = .next t) : Running c s t := by
  obtain ⟨-, rfl⟩ | rfl := next_of_guard h
  · exact .ownError (.refl s) ((Quiet.jamOrSeek _).trans (.react _))
  · exact .refl c _

/-- A halt for another cause than CONFIG changes no table (R77). -/
theorem Running.enterHalted {c : Instr} {s u : State} (hu : Quiet s u) {cause : HaltCause}
    (hc : cause ≠ .config) : Running c s (u.enterHalted cause).react := by
  have hsetup : SameSetup u (u.enterHalted cause).react := by constructor <;> simp
  refine .of_same_table c (hu.setup.trans hsetup) ?_ (by simp [hu.table])
  rw [State.react_part, State.enterHalted_part]
  simpa using hc

theorem Quiet.driveSlot (s : State) (f : Frame) : Quiet s (s.driveSlot f) := by
  unfold State.driveSlot
  split_ifs <;> constructor <;> simp

theorem execFrameReceived_running {bits : List Bit} {s t : State} (c : Instr)
    (h : execFrameReceived bits s = .next t) : Running c s t := by
  unfold execFrameReceived at h
  split at h
  · split at h
    · split at h <;> obtain rfl := Host.Outcome.next.inj h
      · exact .enterHalted (.refl s) (by decide)
      · split_ifs
        · exact ((Quiet.line s _).trans (.driveSlot _ _)).running c
        · exact (Quiet.line s _).running c
    · obtain rfl := Host.Outcome.next.inj h
      exact .refl c _
  · obtain rfl := Host.Outcome.next.inj h
    exact .refl c _

/-! ### GATHER entry -/

/-- GATHER entry as part of a command (R18, R60). -/
theorem Running.enterGather {c : Instr} {s u t : State} {stale : Bool}
    (hs : s.part.state.isGather = false) (hu : Quiet s u) (ht : Quiet (u.enterGather stale) t) :
    Running c s t := by
  have hsetup : SameSetup u (u.enterGather stale) := by constructor <;> simp
  have hstate : t.part.state = .gather .window := by rw [ht.state, State.enterGather_part]
  refine ⟨(hu.setup.trans hsetup).trans ht.setup, fun h => absurd (hstate.symm.trans h) (by simp),
    .entersGather (evicted := u.part.evictedInMute) hs hstate ?_⟩
  rw [ht.table, State.enterGather_table, hu.table, hu.own]

theorem Running.leaveMute {c : Instr} {s u : State} (hs : s.part.state = .mute) (hu : Quiet s u) :
    Running c s u.leaveMute.react := by
  unfold State.leaveMute
  split_ifs
  · exact .enterGather (by rw [hs]; rfl) hu (.react _)
  · exact (hu.trans (.react u)).running c

theorem execBusIdle_running {bits : List Bit} {s t : State} (c : Instr)
    (h : execBusIdle bits s = .next t) : Running c s t := by
  have hready := Quiet.line s { s.line with position := .ready, idleRun := 11 }
  obtain ⟨-, rfl⟩ | rfl := next_of_guard h
  · split_ifs with hstart
    · exact .enterGather (by rw [hstart]; rfl) hready (.react _)
    · exact hready.running c
  · exact .refl c _

theorem execWakeClockReady_running {s t : State} (c : Instr) (h : execWakeClockReady s = .next t) :
    Running c s t := by
  obtain ⟨hg, rfl⟩ | rfl := next_of_guard h
  · simp only [Bool.and_eq_true, beq_iff_eq] at hg
    obtain ⟨⟨-, hsleep⟩, -⟩ := hg
    refine .enterGather (stale := false) (u := { s with
        power := { s.power with clockReady := true }
        demand := { s.demand with sameCount := 0, highCount := 0 } })
      (by rw [hsleep]; rfl) ⟨rfl, rfl, rfl, rfl, rfl, rfl⟩ (Quiet.trans ?_ (.react _))
    constructor <;> simp
  · exact .refl c _

theorem Quiet.completeVoid (s : State) : Quiet s s.completeVoid := by
  unfold State.completeVoid; constructor <;> simp

theorem execFrameVoid_running {ackSlot : Bit} {s t : State} (c : Instr)
    (h : execFrameVoid ackSlot s = .next t) : Running c s t := by
  have hvoid := Quiet.completeVoid s
  unfold execFrameVoid at h
  split at h
  · obtain rfl := Host.Outcome.next.inj h
    exact .refl c _
  split_ifs at h
  · obtain rfl := Host.Outcome.next.inj h
    exact .refl c _
  dsimp only at h
  split at h <;> rename_i hstate <;> obtain rfl := Host.Outcome.next.inj h
  · split_ifs
    · exact .enterGather (by rw [hstate]; rfl) hvoid (.react _)
    · exact hvoid.running c
  · split_ifs
    · refine .of_same_table c (hvoid.setup.trans (by constructor <;> simp)) ?_ ?_
      · simp
      · rw [State.windowAgain_table, hvoid.table]
    · exact hvoid.running c
  · exact .leaveMute hstate hvoid
  all_goals exact .refl c _

/-! ### A frame confirmed -/

/-- A confirmed frame counted, and the request of an own one removed. -/
def State.counted (s : State) (f : Frame) (own : Bool) : State :=
  if own then (s.completeConfirmed own).ownConfirmed f else s.completeConfirmed own

theorem Quiet.counted (s : State) (f : Frame) (own : Bool) : Quiet s (s.counted f own) := by
  unfold State.counted State.completeConfirmed
  dsimp only
  split_ifs <;> constructor <;> simp

theorem Quiet.ownEvicted (s : State) : Quiet s s.ownEvicted := by
  unfold State.ownEvicted; constructor <;> simp

theorem Quiet.activeEffects (s : State) (f : Frame) (own eager : Bool) (n : Nat) :
    Quiet s (s.activeEffects f own eager n) := by
  unfold State.activeEffects
  dsimp only
  split
  case h_1 => split_ifs <;> constructor <;> simp
  case h_2 =>
    split_ifs
    · exact (Quiet.count s _ _).trans (.ownEvicted _)
    · exact .count s _ _
  case h_3 => exact .refl s
  case h_4 => split_ifs <;> constructor <;> simp
  case h_5 =>
    split_ifs
    · exact ⟨rfl, rfl, rfl, rfl, rfl, rfl⟩
    · exact .refl s

theorem Quiet.gatherEffects (s : State) (f : Frame) (n : Nat) : Quiet s (s.gatherEffects f n) := by
  unfold State.gatherEffects
  dsimp only
  split
  case h_1 => split_ifs <;> constructor <;> simp
  case h_2 => split_ifs <;> constructor <;> simp
  all_goals exact .refl s

theorem Quiet.recogniseEviction (s : State) (f : Frame) : Quiet s (s.recogniseEviction f) := by
  unfold State.recogniseEviction
  split
  case h_1 => split_ifs <;> constructor <;> simp
  all_goals exact .refl s

/-- A table adopted between quiet operations (R9, R26, R59). -/
theorem SameSetup.adopt {s u v : State} {t : Table} {f : Frame} (hu : Quiet s u)
    (hv : Quiet (u.adopt t f) v) : SameSetup s v := by
  have hadopt : SameSetup u (u.adopt t f) := by constructor <;> simp
  exact (hu.setup.trans hadopt).trans hv.setup

theorem State.confirmActive_eq (s : State) (f : Frame) (own : Bool) :
    s.confirmActive f own =
      (if s.agreesWith f then (s.counted f own).applyActive f own
        else s.counted f own).decideDemand.react := rfl

theorem confirmActive_running {ack : Bit} {s : State} {f : Frame} (hf : s.slotFrame = some f)
    (own : Bool) : Running (.frameConfirmed ack) s (s.confirmActive f own) := by
  have hcounted := Quiet.counted s f own
  rw [State.confirmActive_eq]
  split_ifs with hagree
  · have heffects : Quiet ((s.counted f own).adopt (s.table.applyActive s.own f).table f)
        ((s.counted f own).applyActive f own).decideDemand.react := by
      rw [State.applyActive, hcounted.table, hcounted.own]
      exact (((Quiet.raiseIf _ _ _).trans (.activeEffects _ _ _ _ _)).trans
        (.decideDemand _)).trans (.react _)
    exact ⟨.adopt hcounted heffects, fun h => hcounted.state ▸ heffects.state ▸ h,
      .confirmedActive rfl hf hagree heffects.table⟩
  · exact ((hcounted.trans (.decideDemand _)).trans (.react _)).running _

/-- The own rejoin ANNOUNCE, where it is that which was confirmed, makes the station ACTIVE (R69). -/
def State.rejoinedIf (s : State) (own : Bool) : State := if own then s.rejoined else s

theorem State.rejoinedIf_keeps (s : State) (own : Bool) :
    SameSetup s (s.rejoinedIf own) ∧ (s.rejoinedIf own).table = s.table ∧
      ((s.rejoinedIf own).part.state = .active ∨ (s.rejoinedIf own).part.state = s.part.state) := by
  unfold State.rejoinedIf
  split_ifs
  · exact ⟨by constructor <;> simp, rfl, .inl rfl⟩
  · exact ⟨(Quiet.refl s).setup, rfl, .inr rfl⟩

theorem State.confirmGather_eq (s : State) (f : Frame) (own : Bool) :
    s.confirmGather f own =
      if s.cfg.budget < (s.table.applyGather s.own f).table.held then
        ((s.counted f own).enterHalted .budget).react
      else
        ((((s.counted f own).adopt (s.table.applyGather s.own f).table f).gatherEffects f
          (s.table.applyGather s.own f).evicted).rejoinedIf own).decideDemand.react := rfl

theorem confirmGather_running {ack : Bit} {s : State} {f : Frame} (hf : s.slotFrame = some f)
    (hg : s.part.state.isGather = true) (own : Bool) :
    Running (.frameConfirmed ack) s (s.confirmGather f own) := by
  have hcounted := Quiet.counted s f own
  rw [State.confirmGather_eq]
  split_ifs with hb
  · exact .enterHalted hcounted (by decide)
  · have heffects := Quiet.gatherEffects ((s.counted f own).adopt
      (s.table.applyGather s.own f).table f) f (s.table.applyGather s.own f).evicted
    generalize ((s.counted f own).adopt (s.table.applyGather s.own f).table f).gatherEffects f
      (s.table.applyGather s.own f).evicted = u at heffects
    obtain ⟨hsetup, htable, hstate⟩ := u.rejoinedIf_keeps own
    have hrest := (Quiet.decideDemand (u.rejoinedIf own)).trans (.react _)
    refine ⟨((SameSetup.adopt hcounted heffects).trans hsetup).trans hrest.setup, fun h => ?_,
      .confirmedGather rfl hf hg (not_lt.mp hb) (hrest.table.trans (htable.trans heffects.table))⟩
    rw [hrest.state] at h
    obtain ha | hs := hstate
    · exact absurd (ha.symm.trans h) (by simp)
    · exact hcounted.state ▸ heffects.state ▸ hs ▸ h

theorem execFrameConfirmed_running {ack : Bit} {s t : State}
    (h : execFrameConfirmed ack s = .next t) : Running (.frameConfirmed ack) s t := by
  unfold execFrameConfirmed at h
  split at h
  · obtain rfl := Host.Outcome.next.inj h
    exact .refl _ _
  rename_i f hf
  split_ifs at h
  · obtain rfl := Host.Outcome.next.inj h
    exact .refl _ _
  split at h <;> rename_i hstate <;> obtain rfl := Host.Outcome.next.inj h
  · exact confirmActive_running hf _
  · exact confirmGather_running hf (by rw [hstate]; rfl) _
  · exact .leaveMute hstate ((Quiet.counted s f _).trans (.recogniseEviction _ f))
  all_goals exact .refl _ _

/-! ### The tick and the close of the window -/

theorem Quiet.tickHorizon (s : State) : Quiet s s.tickHorizon := by
  unfold State.tickHorizon
  split_ifs <;> constructor <;> simp

theorem Quiet.announceDue (s : State) : Quiet s s.announceDue := by
  unfold State.announceDue; constructor <;> simp

theorem Quiet.tickAnnounce (s : State) : Quiet s s.tickAnnounce := by
  unfold State.tickAnnounce
  split_ifs
  · exact ⟨rfl, rfl, rfl, rfl, rfl, rfl⟩
  · exact .announceDue s
  · exact .refl s

theorem Quiet.tickIdle (s : State) : Quiet s s.tickIdle := by constructor <;> simp

theorem Quiet.tickDormant (s : State) : Quiet s s.tickDormant := by constructor <;> simp

theorem Quiet.lookForSilence (s : State) : Quiet s s.lookForSilence := by constructor <;> simp

/-- What follows the window timer in a tick. -/
theorem Quiet.restOfTick (s : State) :
    Quiet s s.tickAnnounce.tickIdle.tickDormant.lookForSilence.react :=
  ((((Quiet.tickAnnounce _).trans (.tickIdle _)).trans (.tickDormant _)).trans
    (.lookForSilence _)).trans (.react _)

theorem State.tickAges_table (s : State) :
    s.tickAges.table = s.table ∨ s.tickAges.table = s.table.aged := by
  unfold State.tickAges
  split_ifs
  · exact .inr rfl
  · exact .inl rfl

/-- The window timer takes a tick, or the window closes (R68). -/
theorem State.tickWindow_cases (s : State) :
    Quiet s s.tickWindow ∨ s.part.state = .gather .window ∧ s.tickWindow = s.closeWindow := by
  unfold State.tickWindow
  split_ifs with hs
  · exact .inl ⟨rfl, rfl, rfl, rfl, rfl, rfl⟩
  · exact .inr ⟨hs, rfl⟩
  · exact .inl (.refl s)

/-- The window closes in a state that differs from `s` in its ages alone (R19, R68). -/
theorem Running.closeWindow {c : Instr} {s u t : State} (hs : s.part.state = .gather .window)
    (hu : SameSetup s u) (hages : u.table = s.table ∨ u.table = s.table.aged)
    (ht : Quiet u.closeWindow t) : Running c s t := by
  have hsetup : SameSetup u u.closeWindow := by unfold State.closeWindow; constructor <;> simp
  have htable : u.closeWindow.table = u.table.closed := by simp [State.closeWindow]
  have hstate : t.part.state = .gather .rejoin := by rw [ht.state]; simp [State.closeWindow]
  exact ⟨(hu.trans hsetup).trans ht.setup, fun h => absurd (hstate.symm.trans h) (by simp),
    .closesWindow hs hstate hages (ht.table.trans htable)⟩

theorem execTick_running {s t : State} (c : Instr) (h : execTick s = .next t) : Running c s t := by
  have hages : SameSetup s s.tickAges.tickHorizon := by constructor <;> simp
  have hhorizon := Quiet.tickHorizon s.tickAges
  have htable : s.tickAges.tickHorizon.table = s.table ∨
      s.tickAges.tickHorizon.table = s.table.aged := by
    rw [hhorizon.table]; exact s.tickAges_table
  have hstate : s.tickAges.tickHorizon.part.state = s.part.state := by
    rw [hhorizon.state, State.tickAges_part]
  obtain ⟨-, rfl⟩ | rfl := next_of_guard h
  · obtain hq | ⟨hw, hclose⟩ := s.tickAges.tickHorizon.tickWindow_cases
    · have hrest := hq.trans (.restOfTick _)
      refine ⟨hages.trans hrest.setup, fun hc => ?_, ?_⟩
      · rw [← hstate, ← hrest.state]; exact hc
      · obtain ht | ht := htable
        · exact .same (hrest.table.trans ht)
        · exact .aged (hrest.table.trans ht)
    · rw [hclose]
      exact .closeWindow (hstate.symm.trans hw) hages htable (.restOfTick _)
  · exact .refl c _

theorem execWindowClose_running {s t : State} (c : Instr) (h : execWindowClose s = .next t) :
    Running c s t := by
  obtain ⟨hg, rfl⟩ | rfl := next_of_guard h
  · simp only [Bool.and_eq_true, beq_iff_eq] at hg
    obtain ⟨⟨-, hw⟩, -⟩ := hg
    exact .closeWindow hw (Quiet.refl s).setup (.inl rfl) (.react _)
  · exact .refl c _

/-! ### SLEEP entry -/

theorem execDormantEntry_running {s t : State} (c : Instr) (h : execDormantEntry s = .next t) :
    Running c s t := by
  obtain ⟨hg, rfl⟩ | rfl := next_of_guard h
  · simp only [Bool.and_eq_true, beq_iff_eq, and_assoc] at hg
    obtain ⟨-, hlisten, -⟩ := hg
    exact ⟨by constructor <;> simp, by simp, .sleeps hlisten (by simp) (by simp)⟩
  · exact .refl c _

/-! ### Every command -/

/-- What every command but those of a reset and of the load does. -/
theorem exec_running {c : Instr} {s t : State} (hc : c.isStartUp = false) (h : exec c s = .next t) :
    Running c s t := by
  by_cases hm : c.isMonitor = true
  · exact (Quiet.of_monitor (exec_of_isMonitor hm h)).running c
  cases c
  case busIdle => exact execBusIdle_running _ h
  case startOpportunity => exact (execStartOpportunity_quiet h).running _
  case arbitrationLost => exact (Quiet.of_guard h (.line s _)).running _
  case bitError => exact execBitError_running _ h
  case bitErrorWatchEnd => exact execBitErrorWatchEnd_running _ h
  case formatError => exact execFormatError_running _ h
  case jamRecognised => exact (execJamRecognised_quiet h).running _
  case jamEnd => exact (Quiet.of_guard h (.endFrame s _)).running _
  case tailDominant => exact (execTailDominant_quiet h).running _
  case frameReceived => exact execFrameReceived_running _ h
  case frameConfirmed => exact execFrameConfirmed_running h
  case frameVoid => exact execFrameVoid_running _ h
  case frameJammed => exact (execFrameJammed_quiet h).running _
  case tick => exact execTick_running _ h
  case silenceLimitReached => exact (Quiet.of_guard h (.lookForSilence s)).running _
  case announceTimerExpiry => exact (Quiet.of_guard h (.announceDue s)).running _
  case windowClose => exact execWindowClose_running _ h
  case horizonExpiry => exact (Quiet.of_guard h (by constructor <;> simp)).running _
  case idleTimerExpiry => exact (Quiet.of_guard h ⟨rfl, rfl, rfl, rfl, rfl, rfl⟩).running _
  case listenEntry => exact (Quiet.of_guard h (by constructor <;> simp)).running _
  case dormantTimerExpiry => exact (Quiet.of_guard h ⟨rfl, rfl, rfl, rfl, rfl, rfl⟩).running _
  case dormantEntry => exact execDormantEntry_running _ h
  case wake => exact (Quiet.of_guard h ⟨rfl, rfl, rfl, rfl, rfl, rfl⟩).running _
  case wakeClockReady => exact execWakeClockReady_running _ h
  case demandSample => exact (execDemandSample_quiet h).running _
  case periodBoundary => exact (Quiet.of_guard h (by constructor <;> simp)).running _
  case conversionReady => exact (execConversionReady_quiet h).running _
  case lockoutExpiry => exact (Quiet.of_guard h (by constructor <;> simp)).running _
  case sagHoldExpiry => exact (Quiet.of_guard h (by constructor <;> simp)).running _
  case sofRead => exact (Quiet.of_guard h (.line s _)).running _
  case interframeEnd => exact (Quiet.of_guard h (.endFrame s _)).running _
  case onTimeElapsed => exact (execOnTimeElapsed_quiet h).running _
  all_goals contradiction

/-! ### Reset and the load -/

theorem State.failLoad_table (s : State) : s.failLoad.table = s.table := by simp [State.failLoad]

theorem State.failAttempt_table (s : State) : s.failAttempt.table = s.table := by
  unfold State.failAttempt
  split_ifs
  · rfl
  · exact s.failLoad_table

theorem State.beginAttempt_table (s : State) (sda : SdaReading) :
    (s.beginAttempt sda).table = s.table := by
  unfold State.beginAttempt
  dsimp only
  split_ifs
  · exact State.failAttempt_table _
  · rfl

theorem State.settle_table (s : State) (c : Settings) : (s.settle c).table = s.table := by
  simp [State.settle]

/-- A guarded command that leaves the table alone. -/
theorem table_of_guard {p : Prop} [Decidable p] {u s t : State}
    (h : (if p then .next u else .next s : Host.Outcome State Fault Refusal) = .next t)
    (hu : u.table = s.table) : t.table = s.table := by
  obtain ⟨-, rfl⟩ | rfl := next_of_guard h
  · exact hu
  · rfl

/-- The load leaves the table alone, and a reset clears it. -/
theorem exec_startUp_move {c : Instr} {s t : State} (hc : c.isStartUp = true)
    (h : exec c s = .next t) : TableMove c s t := by
  cases c
  case reset cause =>
    unfold exec execReset at h
    dsimp only at h
    split at h <;> obtain rfl := Host.Outcome.next.inj h
    · exact .same rfl
    · exact .resets (.inl ⟨cause, rfl⟩) rfl
  case resetEnd =>
    obtain ⟨-, rfl⟩ | rfl := next_of_guard h
    · exact .resets (.inr rfl) rfl
    · exact .same rfl
  case clockReady => exact .same (table_of_guard h (State.beginAttempt_table _ _))
  case attemptFailed => exact .same (table_of_guard h (State.failAttempt_table _))
  case retryWaitExpiry => exact .same (table_of_guard h (State.beginAttempt_table _ _))
  case attemptComplete =>
    refine .same (table_of_guard h ?_)
    split_ifs
    · rw [State.settle_table, State.readImage_table]
    · rw [State.failLoad_table, State.readImage_table]
  all_goals contradiction

/-- What every command does to the table. -/
theorem exec_tableMove {c : Instr} {s t : State} (h : exec c s = .next t) : TableMove c s t := by
  by_cases hc : c.isStartUp = true
  · exact exec_startUp_move hc h
  · exact (exec_running (Bool.eq_false_iff.mpr hc) h).move

/-! ### The moments of R21 -/

/-- An age is no part of what R21 speaks of. -/
theorem Table.aged_keeps (t : Table) (a : Address) :
    (t.aged.at a).presence = (t.at a).presence ∧ (t.aged.at a).holding = (t.at a).holding ∧
      (t.aged.at a).debts = (t.at a).debts := by
  rw [Table.at_aged]
  split_ifs <;> exact ⟨rfl, rfl, rfl⟩

/-- Settles O45: each move of the table but a change of ages falls in one of the moments of R21. -/
theorem tableChangesOnlyAtItsMoments : Obligations.TableChangesOnlyAtItsMoments := by
  intro c s t h
  cases exec_tableMove h with
  | same table => exact .inl fun a => by rw [table]; exact ⟨rfl, rfl, rfl⟩
  | aged table => exact .inl fun a => by rw [table]; exact s.table.aged_keeps a
  | confirmedActive cmd slot => exact .inr (.inl ⟨_, _, cmd, slot⟩)
  | confirmedGather cmd slot => exact .inr (.inl ⟨_, _, cmd, slot⟩)
  | entersGather before after => exact .inr (.inr (.inl ⟨before, after⟩))
  | closesWindow before after => exact .inr (.inr (.inr (.inl ⟨before, after⟩)))
  | sleeps before after => exact .inr (.inr (.inr (.inr (.inl ⟨before, after⟩))))
  | resets cmd => exact .inr (.inr (.inr (.inr (.inr cmd))))

end Sys2Proof.Machine
end

section
/-! The load law (R158, R162 to R164) and the laws of the table (R10, R22 to R24) under a step. -/

namespace Sys2Proof.Machine

/-! ### The unloaded station (R158) -/

/-- Every block that depends on the configuration stands at its values after reset. -/
structure Unloaded (s : State) : Prop where
  config : s.config = none
  table : s.table = Table.allAbsent
  lineCount : s.lineCount = none
  line : s.line = LineInterface.reset
  demand : s.demand = DemandUnit.reset
  drive : s.drive = LoadDrive.reset
  sense : s.sense = SenseUnit.reset
  power : s.power.state = .run

/-- Where an unloaded station stands: in START, or HALTED with cause CONFIG after a load that FAILED. -/
def State.beforeSettling (s : State) : Prop :=
  s.part.state = .start ∧ s.loader.status ≠ .settled ∨
    s.part.state = .halted .config ∧ s.loader.status = .failed

theorem LoadLaw.blocks {s : State} (hl : LoadLaw s) (hn : s.config = none) : Unloaded s := by
  obtain ⟨-, htable, hcount, hline, hdemand, hdrive, hsense, hpower, -⟩ := hl.unloaded hn
  exact ⟨hn, htable, hcount, hline, hdemand, hdrive, hsense, hpower⟩

theorem LoadLaw.beforeSettling {s : State} (hl : LoadLaw s) (hn : s.config = none) :
    s.beforeSettling := by
  obtain ⟨hstatus, -, -, -, -, -, -, -, hstart | hhalted⟩ := hl.unloaded hn
  · exact .inl ⟨hstart, hstatus⟩
  · exact .inr ⟨hhalted, hl.halted hhalted⟩

theorem Unloaded.loadLaw {s : State} (hu : Unloaded s) (hb : s.beforeSettling) : LoadLaw s where
  unloaded _ := by
    obtain ⟨hstart, hstatus⟩ | ⟨hhalted, hfailed⟩ := hb
    · exact ⟨hstatus, hu.table, hu.lineCount, hu.line, hu.demand, hu.drive, hu.sense, hu.power,
        .inl hstart⟩
    · exact ⟨by simp [hfailed], hu.table, hu.lineCount, hu.line, hu.demand, hu.drive, hu.sense,
        hu.power, .inr hhalted⟩
  halted hh := by
    obtain ⟨hstart, -⟩ | ⟨-, hfailed⟩ := hb
    · exact absurd (hstart.symm.trans hh) (by simp)
    · exact hfailed
  settled c hc := absurd (hu.config.symm.trans hc) (by simp)

/-- A load that has not ended leaves the configuration unloaded and the station in START. -/
theorem LoadLaw.loading {s : State} (hl : LoadLaw s)
    (h : s.loader.status = .waiting ∨ s.loader.status = .reading) :
    Unloaded s ∧ s.part.state = .start := by
  have hn : s.config = none := by
    cases hc : s.config with
    | none => rfl
    | some c =>
      obtain ⟨hsettled, -⟩ := hl.settled c hc
      simp [hsettled] at h
  refine ⟨hl.blocks hn, ?_⟩
  obtain ⟨hstart, -⟩ | ⟨-, hfailed⟩ := hl.beforeSettling hn
  · exact hstart
  · simp [hfailed] at h

namespace Unloaded

variable {s : State}

theorem settledRunning (hu : Unloaded s) : s.settledRunning = false := by
  simp [State.settledRunning, hu.config]

theorem position (hu : Unloaded s) : s.line.position = .off := by rw [hu.line]; rfl

theorem sending (hu : Unloaded s) : s.sending = false := by simp [State.sending, hu.position]

theorem receiving (hu : Unloaded s) : s.receiving = false := by simp [State.receiving, hu.position]

theorem slotFrame (hu : Unloaded s) : s.slotFrame = none := by simp [State.slotFrame, hu.position]

theorem period (hu : Unloaded s) : s.drive.period = none := by rw [hu.drive]; rfl

end Unloaded

/-- A guarded command whose guard fails. -/
theorem eq_of_guard_false {p : Prop} [Decidable p] {u s t : State}
    (h : (if p then .next u else .next s : Host.Outcome State Fault Refusal) = .next t)
    (hp : ¬ p) : t = s := by
  obtain ⟨hg, -⟩ | rfl := next_of_guard h
  · exact absurd hg hp
  · rfl

/-- While the configuration is unloaded nothing but a reset, the load and the monitor port moves. -/
theorem exec_of_unloaded {c : Instr} {s t : State} (hu : Unloaded s) (hb : s.beforeSettling)
    (hc : c.isStartUp = false) (hm : c.isMonitor = false) (h : exec c s = .next t) : t = s := by
  have hrun := hu.settledRunning
  have hpos := hu.position
  have hsleep : s.part.state ≠ .sleep := by
    obtain ⟨hs, -⟩ | ⟨hs, -⟩ := hb <;> simp [hs]
  cases c
  case busIdle => exact eq_of_guard_false h (by simp [hpos])
  case startOpportunity => exact eq_of_guard_false h (by simp [hpos])
  case arbitrationLost => exact eq_of_guard_false h (by simp [hu.sending])
  case bitError =>
    unfold exec execBitError at h
    rw [hu.sending] at h
    exact (Host.Outcome.next.inj h).symm
  case bitErrorWatchEnd =>
    unfold exec execBitErrorWatchEnd at h
    exact eq_of_guard_false (p := False) (u := s) (by simpa [hpos] using h) id
  case formatError => exact eq_of_guard_false h (by simp [hu.receiving])
  case jamRecognised => exact eq_of_guard_false h (by simp [hu.receiving])
  case jamEnd => exact eq_of_guard_false h (by simp [hpos])
  case tailDominant field =>
    unfold exec execTailDominant at h
    cases field <;> exact eq_of_guard_false h (by simp [hpos])
  case frameReceived =>
    unfold exec execFrameReceived at h
    rw [hu.receiving] at h
    exact (Host.Outcome.next.inj h).symm
  case frameConfirmed =>
    unfold exec execFrameConfirmed at h
    rw [hu.slotFrame] at h
    exact (Host.Outcome.next.inj h).symm
  case frameVoid =>
    unfold exec execFrameVoid at h
    rw [hu.slotFrame] at h
    exact (Host.Outcome.next.inj h).symm
  case frameJammed =>
    unfold exec execFrameJammed at h
    rw [hu.slotFrame] at h
    exact (Host.Outcome.next.inj h).symm
  case tick => exact eq_of_guard_false h (by simp [hrun])
  case silenceLimitReached => exact eq_of_guard_false h (by simp [hrun])
  case announceTimerExpiry => exact eq_of_guard_false h (by simp [hrun])
  case windowClose => exact eq_of_guard_false h (by simp [hrun])
  case horizonExpiry => exact eq_of_guard_false h (by simp [hrun])
  case idleTimerExpiry => exact eq_of_guard_false h (by simp [hrun])
  case listenEntry => exact eq_of_guard_false h (by simp [hrun])
  case dormantTimerExpiry => exact eq_of_guard_false h (by simp [hrun])
  case dormantEntry => exact eq_of_guard_false h (by simp [hrun])
  case wake => exact eq_of_guard_false h (by simp [hu.power])
  case wakeClockReady => exact eq_of_guard_false h (by simp [hsleep])
  case demandSample => exact eq_of_guard_false h (by simp [hrun])
  case periodBoundary => exact eq_of_guard_false h (by simp [hrun])
  case conversionReady =>
    unfold exec execConversionReady at h
    rw [hrun] at h
    exact (Host.Outcome.next.inj h).symm
  case lockoutExpiry => exact eq_of_guard_false h (by simp [hrun])
  case sagHoldExpiry => exact eq_of_guard_false h (by simp [hrun])
  case sofRead => exact eq_of_guard_false h (by simp [hpos])
  case interframeEnd => exact eq_of_guard_false h (by simp [hpos])
  case onTimeElapsed =>
    unfold exec execOnTimeElapsed at h
    rw [hu.period] at h
    exact (Host.Outcome.next.inj h).symm
  all_goals contradiction

/-! ### The load (R161 to R164) -/

theorem State.endListen_of_run {s : State} (h : s.power.state = .run) : s.endListen = s := by
  unfold State.endListen; rw [if_neg (by simp [h])]

/-- A drive that stands at its target is left as it is by a reaction. -/
theorem State.react_of_output_eq {s : State} (h : s.drive.output = s.target)
    (hramp : s.drive.ramp = .stopped) : s.react.drive = s.drive ∧ s.react.sense = s.sense := by
  have hfollow : s.restPatience.follow = s.restPatience :=
    State.follow_of_output_eq (by simpa using h) (by simpa using hramp)
  unfold State.react
  rw [hfollow]
  exact ⟨by simp, by simp⟩

namespace Unloaded

variable {s : State}

/-- The loader is none of the blocks that depend on the configuration. -/
theorem setLoader (hu : Unloaded s) (l : Loader) : Unloaded { s with loader := l } :=
  ⟨hu.config, hu.table, hu.lineCount, hu.line, hu.demand, hu.drive, hu.sense, hu.power⟩

theorem setClockReady (hu : Unloaded s) :
    Unloaded { s with power := { s.power with clockReady := true } } :=
  ⟨hu.config, hu.table, hu.lineCount, hu.line, hu.demand, hu.drive, hu.sense, hu.power⟩

theorem enterHalted (hu : Unloaded s) (cause : HaltCause) : Unloaded (s.enterHalted cause) := by
  have hhalted : s.enterHalted cause = State.endFrame
      { (s.raise .halt).emptyOutbox.dropPatience with
        part := { s.part with state := .halted cause, announceTimer := 0 } } .off :=
    State.endListen_of_run hu.power
  refine ⟨by simp [hu.config], by simp [hu.table], by simp [hu.lineCount], ?_, ?_, ?_, ?_, ?_⟩
  · rw [State.enterHalted_line, hu.line]; rfl
  · rw [State.enterHalted_demand, hu.demand]; rfl
  · rw [hhalted]; exact hu.drive
  · rw [hhalted]; exact hu.sense
  · rw [hhalted]; exact hu.power

theorem react (hu : Unloaded s) (ht : s.target = 0) : Unloaded s.react := by
  have hkept := State.react_of_output_eq (s := s) (by rw [ht, hu.drive]; rfl) (by rw [hu.drive]; rfl)
  obtain ⟨hdrive, hsense⟩ := hkept
  refine ⟨by simp [hu.config], by simp [hu.table], by simp [hu.lineCount], by simp [hu.line], ?_,
    hdrive.trans hu.drive, hsense.trans hu.sense, by simp [hu.power]⟩
  rw [State.react_demand, hu.demand]
  split_ifs <;> rfl

/-- A load that fails halts the station with cause CONFIG and leaves its blocks as they stood. -/
theorem loadLaw_failLoad (hu : Unloaded s) : LoadLaw s.failLoad := by
  unfold State.failLoad
  refine Unloaded.loadLaw
    (((hu.setLoader _).enterHalted .config).react (State.enterHalted_target _ _)) (.inr ⟨?_, ?_⟩)
  · rw [State.react_part, State.enterHalted_part]
  · simp

theorem loadLaw_failAttempt (hu : Unloaded s) (hp : s.part.state = .start)
    (hs : s.loader.status = .reading) : LoadLaw s.failAttempt := by
  unfold State.failAttempt
  split_ifs
  · exact (hu.setLoader _).loadLaw (.inl ⟨hp, by simp [hs]⟩)
  · exact hu.loadLaw_failLoad

theorem loadLaw_beginAttempt (hu : Unloaded s) (hp : s.part.state = .start)
    (hs : s.loader.status = .reading) (sda : SdaReading) : LoadLaw (s.beginAttempt sda) := by
  unfold State.beginAttempt
  dsimp only
  split_ifs
  · exact (hu.setLoader _).loadLaw_failAttempt hp hs
  · exact (hu.setLoader _).loadLaw (.inl ⟨hp, by simp [hs]⟩)

end Unloaded

theorem imageByte_le (image : List Byte) (i : Nat) : imageByte image i ≤ 255 :=
  Nat.le_of_lt_succ (image.getD i 0).isLt

/-- The fields of an image fit their widths (R175). -/
theorem fitsImage_decodeImage (image : List Byte) : (decodeImage image).FitsImage where
  budget := imageByte_le image 1
  maxLevel := by have := imageByte_le image 2; simp only [decodeImage]; omega
  unitsPerLevel := Nat.le_of_lt_succ (Nat.mod_lt _ (by decide))
  rampStep := imageByte_le image 6
  currentScale := imageByte_le image 7
  overdrawMargin := imageByte_le image 8
  sagThreshold := imageByte_le image 9
  sagHoldTime := imageByte_le image 10
  lockoutTime := imageByte_le image 11
  idleDelay := imageByte_le image 12
  dormantDelay := imageByte_le image 13

/-- Settlement, from START, with values in range (R162, R163). -/
theorem LoadLaw.settle {s : State} (hp : s.part.state = .start) {image : List Byte}
    (hi : imagePasses image = true) : LoadLaw (s.settle (decodeImage image)) := by
  have hconfig : (s.settle (decodeImage image)).config = some (decodeImage image) := by
    simp [State.settle]
  refine ⟨fun hn => absurd (hconfig.symm.trans hn) (by simp), fun hh => ?_, fun c hc => ?_⟩
  · have hpart : (s.settle (decodeImage image)).part = s.part := by simp [State.settle]
    rw [hpart, hp] at hh
    exact absurd hh (by simp)
  · obtain rfl := Option.some.inj (hconfig.symm.trans hc)
    simp only [imagePasses, Bool.and_eq_true] at hi
    obtain ⟨⟨-, hranges⟩, -⟩ := hi
    exact ⟨by simp [State.settle], hranges, fitsImage_decodeImage image⟩

/-- The end of an attempt whose image has been read: settlement or a failed load (R162 to R164). -/
theorem Unloaded.loadLaw_imageRead {s : State} (hu : Unloaded s) (hp : s.part.state = .start)
    (image : List Byte) :
    LoadLaw (if imagePasses image then (s.readImage image).settle (decodeImage image)
      else (s.readImage image).failLoad) := by
  have hread : Unloaded (s.readImage image) := hu.setLoader _
  split_ifs with hi
  · exact .settle (by simpa using hp) hi
  · exact hread.loadLaw_failLoad

theorem LoadLaw.resetBlocks (s : State) (rst : ResetUnit) : LoadLaw (s.resetBlocks rst) :=
  Unloaded.loadLaw ⟨rfl, rfl, rfl, rfl, rfl, rfl, rfl, rfl⟩ (.inl ⟨rfl, nofun⟩)

/-- The laws of the load under the commands of a reset and of the load. -/
theorem LoadLaw.exec_startUp {c : Instr} {s t : State} (hl : LoadLaw s) (hc : c.isStartUp = true)
    (h : exec c s = .next t) : LoadLaw t := by
  cases c
  case reset cause =>
    unfold exec execReset at h
    dsimp only at h
    split at h <;> obtain rfl := Host.Outcome.next.inj h
    · exact ⟨hl.unloaded, hl.halted, hl.settled⟩
    · exact .resetBlocks s _
  case resetEnd =>
    obtain ⟨-, rfl⟩ | rfl := next_of_guard h
    · exact .resetBlocks s _
    · exact hl
  case clockReady =>
    obtain ⟨hg, rfl⟩ | rfl := next_of_guard h
    · simp only [Bool.and_eq_true, beq_iff_eq] at hg
      obtain ⟨-, hwaiting⟩ := hg
      obtain ⟨hu, hp⟩ := hl.loading (.inl hwaiting)
      exact (hu.setClockReady.setLoader _).loadLaw_beginAttempt hp rfl _
    · exact hl
  case attemptFailed =>
    obtain ⟨hg, rfl⟩ | rfl := next_of_guard h
    · simp only [State.attempting, Bool.and_eq_true, beq_iff_eq] at hg
      obtain ⟨⟨-, hreading⟩, -⟩ := hg
      obtain ⟨hu, hp⟩ := hl.loading (.inr hreading)
      exact (hu.setLoader _).loadLaw_failAttempt hp hreading
    · exact hl
  case retryWaitExpiry =>
    obtain ⟨hg, rfl⟩ | rfl := next_of_guard h
    · simp only [Bool.and_eq_true, beq_iff_eq] at hg
      obtain ⟨⟨-, hreading⟩, -⟩ := hg
      obtain ⟨hu, hp⟩ := hl.loading (.inr hreading)
      exact hu.loadLaw_beginAttempt hp hreading _
    · exact hl
  case attemptComplete =>
    obtain ⟨hg, rfl⟩ | rfl := next_of_guard h
    · simp only [State.attempting, Bool.and_eq_true, beq_iff_eq] at hg
      obtain ⟨⟨⟨-, hreading⟩, -⟩, -⟩ := hg
      obtain ⟨hu, hp⟩ := hl.loading (.inr hreading)
      exact hu.loadLaw_imageRead hp _
    · exact hl
  all_goals contradiction

/-- A settled station keeps its configuration through every command but a reset. -/
theorem Running.loadLaw {c : Instr} {s t : State} (hl : LoadLaw s) (hr : Running c s t)
    (hs : s.config ≠ none) : LoadLaw t where
  unloaded hn := absurd (hr.setup.config.symm.trans hn) hs
  halted hh := by rw [hr.setup.loader]; exact hl.halted (hr.halted hh)
  settled c hc := by rw [hr.setup.loader]; exact hl.settled c (hr.setup.config ▸ hc)

/-- Every command keeps the law of the load. -/
theorem LoadLaw.exec {c : Instr} {s t : State} (hl : LoadLaw s) (h : exec c s = .next t) :
    LoadLaw t := by
  by_cases hc : c.isStartUp = true
  · exact hl.exec_startUp hc h
  rw [Bool.not_eq_true] at hc
  by_cases hn : s.config = none
  · by_cases hm : c.isMonitor = true
    · obtain ⟨m, rfl⟩ := exec_of_isMonitor hm h
      exact ⟨hl.unloaded, hl.halted, hl.settled⟩
    · rw [Bool.not_eq_true] at hm
      rw [exec_of_unloaded (hl.blocks hn) (hl.beforeSettling hn) hc hm h]
      exact hl
  · exact (exec_running hc h).loadLaw hl hn

/-! ### The laws of the table -/

theorem Table.held_allAbsent : Table.allAbsent.held = 0 := by
  simp [Table.held_eq_sum]

/-- Entries that are cleared, and stacks that lose records, hold no more. -/
theorem Table.held_closed_le (t : Table) : t.closed.held ≤ t.held :=
  Table.held_mono fun a => by
    rw [Table.at_closed]
    split_ifs
    · rw [Entry.share_cleared]; exact Nat.zero_le _
    · exact le_rfl

theorem Table.held_forGather_le (t : Table) (own : Address) (evicted : Bool) :
    (t.forGather own evicted).held ≤ t.held :=
  Table.held_mono fun a => by
    rw [Table.at_forGather]
    split_ifs
    · rw [Entry.share_cleared]; exact Nat.zero_le _
    · exact le_rfl
    · rw [Entry.share_cleared]; exact Nat.zero_le _

theorem State.contentAgrees_of_agreesWith {s : State} {f : Frame} (h : s.agreesWith f = true) :
    s.table.contentAgrees s.cfg.budget f = true :=
  (Bool.and_eq_true_iff.mp h).2

/-- Each move of the table keeps R10, R23 and R24. -/
theorem TableMove.lawful {c : Instr} {s t : State} (m : TableMove c s t) (hs : s.table.Lawful)
    (hcov : s.part.state.isGather = true → ∀ f, s.slotFrame = some f → f.Covered) :
    t.table.Lawful := by
  cases m with
  | same table => exact table ▸ hs
  | aged table => exact table ▸ hs.aged
  | @confirmedActive _ f _ _ agrees table =>
    exact table ▸ (hs.applyActive (State.contentAgrees_of_agreesWith agrees) s.own).heard f.sender
  | @confirmedGather _ f _ slot gather _ table =>
    exact table ▸ (hs.applyGather (hcov gather f slot) s.own).heard f.sender
  | entersGather _ _ table => exact table ▸ hs.forGather _ _
  | closesWindow _ _ ages table =>
    obtain rfl | rfl := ages
    · exact table ▸ hs.closed
    · exact table ▸ hs.aged.closed
  | sleeps _ _ table => exact table ▸ .allAbsent
  | resets _ table => exact table ▸ .allAbsent

/-- Each move of the table keeps the holdings within the budget (R22). -/
theorem TableMove.held_le {c : Instr} {s t : State} (m : TableMove c s t)
    (hb : s.table.held ≤ s.cfg.budget) : t.table.held ≤ s.cfg.budget := by
  cases m with
  | same table => rw [table]; exact hb
  | aged table => rw [table, Table.held_aged]; exact hb
  | confirmedActive _ _ agrees table =>
    rw [table, Table.held_heard]
    exact Table.held_applyActive_le hb (State.contentAgrees_of_agreesWith agrees) s.own
  | confirmedGather _ _ _ budget table => rw [table, Table.held_heard]; exact budget
  | entersGather _ _ table => rw [table]; exact (Table.held_forGather_le _ _ _).trans hb
  | closesWindow _ _ ages table =>
    rw [table]
    refine (Table.held_closed_le _).trans ?_
    obtain rfl | rfl := ages
    · exact hb
    · rw [Table.held_aged]; exact hb
  | sleeps _ _ table => rw [table, Table.held_allAbsent]; exact Nat.zero_le _
  | resets _ table => rw [table, Table.held_allAbsent]; exact Nat.zero_le _

/-- A settled station's configuration stands, or a reset takes it (R158, R163). -/
theorem LoadLaw.exec_config {c : Instr} {s t : State} (hl : LoadLaw s) (hs : s.config ≠ none)
    (h : Machine.exec c s = .next t) : t.config = s.config ∨ t.config = none := by
  obtain ⟨v, hv⟩ := Option.ne_none_iff_exists'.mp hs
  obtain ⟨hstatus, -⟩ := hl.settled v hv
  have hattempt : s.attempting = false := by simp [State.attempting, hstatus]
  by_cases hc : c.isStartUp = true
  · cases c
    case reset cause =>
      unfold Machine.exec execReset at h
      dsimp only at h
      split at h <;> obtain rfl := Host.Outcome.next.inj h
      · exact .inl rfl
      · exact .inr rfl
    case resetEnd =>
      obtain ⟨-, rfl⟩ | rfl := next_of_guard h
      · exact .inr rfl
      · exact .inl rfl
    case clockReady => exact .inl (by rw [eq_of_guard_false h (by simp [hstatus])])
    case attemptFailed => exact .inl (by rw [eq_of_guard_false h (by simp [hattempt])])
    case retryWaitExpiry => exact .inl (by rw [eq_of_guard_false h (by simp [hstatus])])
    case attemptComplete => exact .inl (by rw [eq_of_guard_false h (by simp [hattempt])])
    all_goals contradiction
  · exact .inl (exec_running (Bool.eq_false_iff.mpr hc) h).setup.config

/-- The holdings are within the budget after every command: within the budget that stands, and 0 where
there was or is none. -/
theorem TableLaw.exec_budget {c : Instr} {s t : State} (hs : TableLaw s)
    (h : Machine.exec c s = .next t) : t.table.held ≤ t.cfg.budget := by
  have hheld := (exec_tableMove h).held_le hs.budget
  by_cases hn : s.config = none
  · have hbudget : s.cfg.budget = 0 := by rw [State.cfg, hn]; rfl
    omega
  · obtain hc | hc := hs.load.exec_config hn h
    · rw [State.cfg, hc]; exact hheld
    · rw [((hs.load.exec h).blocks hc).table, Table.held_allAbsent]
      exact Nat.zero_le _

/-- Every command keeps the laws of the table. -/
theorem TableLaw.exec {c : Instr} {s t : State} (hs : TableLaw s)
    (hcov : s.part.state.isGather = true → ∀ f, s.slotFrame = some f → f.Covered)
    (h : Machine.exec c s = .next t) : TableLaw t :=
  ⟨hs.load.exec h, (exec_tableMove h).lawful hs.lawful hcov, hs.exec_budget h⟩

/-- The queue is no part of the laws. -/
theorem TableLaw.setPending {s : State} (hs : TableLaw s) (rest : List Instr) :
    TableLaw { s with pending := rest } :=
  ⟨⟨hs.load.unloaded, hs.load.halted, hs.load.settled⟩, hs.lawful, hs.budget⟩

/-- Settles O41: the command at the front of the queue keeps the law of the load, and makes one of the
moves of the table, each of which keeps R10 and R22 to R24. -/
theorem budgetAndDebtLawsAreKept : Obligations.BudgetAndDebtLawsAreKept := by
  intro s t hs hcov h
  unfold step at h
  split at h
  case h_1 =>
    obtain rfl := Host.Outcome.next.inj h
    exact hs
  case h_2 rest _ => exact (hs.setPending rest).exec hcov h

end Sys2Proof.Machine
end

section
/-! Which victims a claim considers and what each gives (R29, R30). -/

namespace Sys2Proof.Machine

/-! ### Victim order (R29) -/

/-- What the entry at an address holds above its floor. -/
def Table.spare (t : Table) (a : Address) : Nat := (t.at a).holding - (t.at a).floor

/-- An entry that claimant `d` of class `c` may take units from (R29). -/
structure Table.Eligible (t : Table) (d : Address) (c : StationClass) (a : Address) : Prop where
  present : (t.at a).presence = .present
  other : a ≠ d
  lower : (t.at a).cls < c
  depth : t.shedDepth a < 4
  spare : 0 < t.spare a

/-- Victim order between two different entries (R29): lower class, larger excess, higher address. -/
def Table.Precedes (t : Table) (a b : Address) : Prop :=
  (t.at a).cls < (t.at b).cls ∨ ((t.at a).cls = (t.at b).cls ∧
    (t.spare b < t.spare a ∨ (t.spare a = t.spare b ∧ b < a)))

theorem Table.excess_eq_spare {t : Table} {a : Address} (h : (t.at a).presence = .present) :
    (t.at a).excess = t.spare a := by
  rw [Entry.excess, if_pos (Entry.isPresent_iff.mpr h), Table.spare]

theorem Table.mem_eligible {t : Table} {d : Address} {c : StationClass} {a : Address} :
    a ∈ t.eligible d c ↔ t.Eligible d c a := by
  simp only [Table.eligible, List.mem_filter, mem_addresses, true_and, Bool.and_eq_true, bne_iff_ne,
    decide_eq_true_eq, and_assoc, Entry.isPresent_iff]
  constructor
  · rintro ⟨hp, hne, hc, hd, hx⟩
    exact ⟨hp, hne, hc, hd, Table.excess_eq_spare hp ▸ hx⟩
  · rintro ⟨hp, hne, hc, hd, hx⟩
    exact ⟨hp, hne, hc, hd, Table.excess_eq_spare hp ▸ hx⟩

theorem Table.victimBefore_iff {t : Table} {a b : Address} :
    t.victimBefore a b = true ↔ (t.at a).cls < (t.at b).cls ∨ ((t.at a).cls = (t.at b).cls ∧
      ((t.at b).excess < (t.at a).excess ∨ ((t.at a).excess = (t.at b).excess ∧ b ≤ a))) := by
  simp [Table.victimBefore]

theorem Table.victimBefore_total (t : Table) (a b : Address) :
    t.victimBefore a b = true ∨ t.victimBefore b a = true := by
  simp only [Table.victimBefore_iff, Fin.lt_def, Fin.le_def, Fin.ext_iff]
  omega

theorem Table.victimBefore_trans {t : Table} {a b c : Address} (hab : t.victimBefore a b = true)
    (hbc : t.victimBefore b c = true) : t.victimBefore a c = true := by
  simp only [Table.victimBefore_iff, Fin.lt_def, Fin.le_def, Fin.ext_iff] at *
  omega

theorem Table.precedes_of_victimBefore {t : Table} {a b : Address}
    (ha : (t.at a).presence = .present) (hb : (t.at b).presence = .present) (hne : a ≠ b)
    (h : t.victimBefore a b = true) : t.Precedes a b := by
  rw [Table.victimBefore_iff, Table.excess_eq_spare ha, Table.excess_eq_spare hb] at h
  simp only [Table.Precedes, ne_eq, Fin.lt_def, Fin.le_def, Fin.ext_iff] at *
  omega

/-! ### The considered victims (R29) -/

/-- All eligible victims, in victim order. -/
def Table.victimQueue (t : Table) (d : Address) (c : StationClass) : List Address :=
  (t.eligible d c).insertionSort fun a b => t.victimBefore a b = true

theorem Table.considered_eq_take (t : Table) (d : Address) (c : StationClass) :
    t.considered d c = (t.victimQueue d c).take 4 := rfl

theorem Table.mem_victimQueue {t : Table} {d : Address} {c : StationClass} {a : Address} :
    a ∈ t.victimQueue d c ↔ t.Eligible d c a := by
  rw [Table.victimQueue, List.mem_insertionSort, Table.mem_eligible]

theorem Table.victimQueue_nodup (t : Table) (d : Address) (c : StationClass) :
    (t.victimQueue d c).Nodup :=
  (List.perm_insertionSort _ _).nodup_iff.mpr ((List.nodup_finRange 32).filter _)

theorem Table.pairwise_victimQueue (t : Table) (d : Address) (c : StationClass) :
    (t.victimQueue d c).Pairwise t.Precedes := by
  have : Std.Total fun a b => t.victimBefore a b = true := ⟨t.victimBefore_total⟩
  have : IsTrans Address fun a b => t.victimBefore a b = true :=
    ⟨fun _ _ _ => Table.victimBefore_trans⟩
  have hsorted : (t.victimQueue d c).Pairwise fun a b => t.victimBefore a b = true :=
    List.pairwise_insertionSort _ _
  refine (hsorted.and (t.victimQueue_nodup d c)).imp_of_mem fun ha hb h => ?_
  obtain ⟨hbefore, hne⟩ := h
  exact Table.precedes_of_victimBefore (Table.mem_victimQueue.mp ha).present
    (Table.mem_victimQueue.mp hb).present hne hbefore

theorem Table.eligible_of_considered {t : Table} {d : Address} {c : StationClass} {a : Address}
    (h : a ∈ t.considered d c) : t.Eligible d c a :=
  Table.mem_victimQueue.mp (List.mem_of_mem_take h)

theorem Table.length_considered_le (t : Table) (d : Address) (c : StationClass) :
    (t.considered d c).length ≤ 4 := List.length_take_le _ _

/-- An eligible victim is left out only where four others come before it. -/
theorem Table.precedes_of_not_considered {t : Table} {d : Address} {c : StationClass} {a : Address}
    (ha : t.Eligible d c a) (hout : a ∉ t.considered d c) :
    (t.considered d c).length = 4 ∧ ∀ b ∈ t.considered d c, t.Precedes b a := by
  have hpair := t.pairwise_victimQueue d c
  have hmem := Table.mem_victimQueue.mpr ha
  rw [← List.take_append_drop 4 (t.victimQueue d c)] at hpair hmem
  have hrest : a ∈ (t.victimQueue d c).drop 4 := (List.mem_append.mp hmem).resolve_left hout
  obtain ⟨-, -, hcross⟩ := List.pairwise_append.mp hpair
  refine ⟨?_, fun b hb => hcross b hb a hrest⟩
  have hlong := List.length_pos_of_mem hrest
  rw [List.length_drop] at hlong
  rw [Table.considered_eq_take, List.length_take]
  omega

theorem Table.sheddable_eq_sum (t : Table) (d : Address) (c : StationClass) :
    t.sheddable d c = ((t.considered d c).map t.spare).sum := by
  unfold Table.sheddable
  congr 1
  exact List.map_congr_left fun a ha =>
    Table.excess_eq_spare (Table.eligible_of_considered ha).present

/-- Nobody is of lower class than class 0. -/
theorem Table.considered_class_zero (t : Table) (d : Address) : t.considered d 0 = [] :=
  List.eq_nil_iff_forall_not_mem.mpr fun _ ha =>
    absurd (Table.eligible_of_considered ha).lower (Fin.not_lt_zero _)

/-! ### What the victims give (R30) -/

@[simp] theorem takenBy_nil : takenBy [] = 0 := rfl

@[simp] theorem takenBy_cons (v : Victim) (vs : List Victim) :
    takenBy (v :: vs) = v.units + takenBy vs := rfl

@[simp] theorem Table.takeFrom_zero (t : Table) (xs : List Address) : t.takeFrom 0 xs = [] := by
  cases xs <;> simp [Table.takeFrom]

theorem Table.takeFrom_cons_of_ne_zero {need : Nat} (h : need ≠ 0) (t : Table) (a : Address)
    (xs : List Address) :
    t.takeFrom need (a :: xs) =
      ⟨a, min (t.at a).excess need⟩ :: t.takeFrom (need - min (t.at a).excess need) xs := by
  rw [Table.takeFrom, if_neg h]

/-- The victims listed are the first of those that may give, in their order. -/
theorem Table.victims_takeFrom_eq_take (t : Table) (need : Nat) (xs : List Address) :
    (t.takeFrom need xs).map (·.victim) = xs.take (t.takeFrom need xs).length := by
  induction xs generalizing need with
  | nil => rfl
  | cons a xs ih =>
    by_cases h : need = 0
    · simp [h]
    · rw [Table.takeFrom_cons_of_ne_zero h, List.map_cons, ih, List.length_cons, List.take_succ_cons]

/-- Each victim gives the lesser of its excess and what those before it have left needed. -/
theorem Table.units_takeFrom {t : Table} {need : Nat} {xs : List Address} {i : Nat} {v : Victim}
    (h : (t.takeFrom need xs)[i]? = some v) :
    v.units = min (t.at v.victim).excess (need - takenBy ((t.takeFrom need xs).take i)) ∧
      0 < need - takenBy ((t.takeFrom need xs).take i) := by
  induction xs generalizing need i with
  | nil => simp [Table.takeFrom] at h
  | cons a xs ih =>
    by_cases hn : need = 0
    · simp [hn] at h
    · rw [Table.takeFrom_cons_of_ne_zero hn] at h ⊢
      cases i with
      | zero =>
        obtain rfl := Option.some.inj h
        exact ⟨rfl, Nat.pos_of_ne_zero hn⟩
      | succ i =>
        rw [List.take_succ_cons, takenBy_cons, ← Nat.sub_sub]
        exact ih h

theorem Table.victims_victimList (t : Table) (budget : Nat) (d : Address) (c : StationClass)
    (n : Nat) :
    (t.victimList budget d c n).map (·.victim) =
      (t.considered d c).take (t.victimList budget d c n).length :=
  t.victims_takeFrom_eq_take _ _

/-- Who is listed as a victim is eligible. -/
theorem Table.eligible_of_mem_victimList {t : Table} {budget : Nat} {d : Address} {c : StationClass}
    {n : Nat} {v : Victim} (h : v ∈ t.victimList budget d c n) : t.Eligible d c v.victim := by
  have hv := List.mem_map_of_mem (f := (·.victim)) h
  rw [Table.victims_victimList] at hv
  exact Table.eligible_of_considered (List.mem_of_mem_take hv)

theorem Table.length_victimList_le (t : Table) (budget : Nat) (d : Address) (c : StationClass)
    (n : Nat) : (t.victimList budget d c n).length ≤ 4 := by
  have h := congrArg List.length (t.victims_victimList budget d c n)
  rw [List.length_map, List.length_take] at h
  have hc := t.length_considered_le d c
  omega

theorem Table.victimList_of_le_free {t : Table} {budget n : Nat} (h : n ≤ t.free budget)
    (d : Address) (c : StationClass) : t.victimList budget d c n = [] := by
  rw [Table.victimList, Nat.sub_eq_zero_of_le h, Table.takeFrom_zero]

/-- A listed victim gives the lesser of its excess and what is still needed, and not nothing. -/
theorem Table.units_victimList {t : Table} {budget : Nat} {d : Address} {c : StationClass} {n i : Nat}
    {v : Victim} (h : (t.victimList budget d c n)[i]? = some v) :
    v.units = min (t.spare v.victim)
        (n - t.free budget - takenBy ((t.victimList budget d c n).take i)) ∧ 0 < v.units := by
  have he := Table.eligible_of_mem_victimList (List.mem_of_getElem? h)
  obtain ⟨hunits, hneed⟩ := Table.units_takeFrom h
  rw [Table.excess_eq_spare he.present] at hunits
  exact ⟨hunits, hunits ▸ lt_min he.spare hneed⟩

theorem Table.takenBy_victimList_of_covered {t : Table} {budget : Nat} {d : Address}
    {c : StationClass} {n : Nat} (h : n ≤ t.free budget + t.sheddable d c) :
    takenBy (t.victimList budget d c n) = n - min n (t.free budget) := by
  rw [Table.takenBy_victimList]
  omega

/-- Settles O23: the victims are the first four of the eligible entries sorted in victim order, and
units are taken along that list. -/
theorem victimsAreConsideredAndTakenInOrder : Obligations.VictimsAreConsideredAndTakenInOrder := by
  refine ⟨fun t d c => ?_, fun t budget d c n => ?_⟩
  · refine ⟨t.length_considered_le d c, (t.pairwise_victimQueue d c).sublist (List.take_sublist _ _),
      fun a ha => ?_, fun a ⟨hp, hne, hc, hd, hx⟩ hout => ?_, t.sheddable_eq_sum d c,
      t.considered_class_zero d⟩
    · obtain ⟨hp, hne, hc, hd, hx⟩ := Table.eligible_of_considered ha
      exact ⟨hp, hne, hc, hd, hx⟩
    · exact Table.precedes_of_not_considered ⟨hp, hne, hc, hd, hx⟩ hout
  · exact ⟨t.length_victimList_le budget d c n, fun h => Table.victimList_of_le_free h d c,
      t.victims_victimList budget d c n, fun i v h => Table.units_victimList h,
      Table.takenBy_victimList_of_covered⟩

end Sys2Proof.Machine
end

section
/-! What an accepted CLAIM does to each entry of the table (R31, R32). -/

namespace Sys2Proof.Machine

/-! ### The victims' losses (R31) -/

/-- A PRESENT victim's entry after its loss. -/
theorem Table.at_lose_self {t : Table} {v : Victim} (hp : (t.at v.victim).presence = .present) :
    (t.lose v).at v.victim = (t.at v.victim).losing v.units := by
  rw [Table.lose_eq, if_pos (Entry.isPresent_iff.mpr hp), Table.at_put_self]

/-- Each victim of a list that can be taken loses its own units and nothing else. -/
theorem Table.Takes.at_loseAll {t : Table} {victims : List Victim} (h : t.Takes victims) {v : Victim}
    (hv : v ∈ victims) :
    (victims.foldl Table.lose t).at v.victim = (t.at v.victim).losing v.units := by
  induction victims generalizing t with
  | nil => exact absurd hv List.not_mem_nil
  | cons w ws ih =>
    obtain ⟨hw, hnd⟩ := List.nodup_cons.mp h.nodup
    obtain ⟨⟨hp, -⟩, hrest⟩ := List.forall_mem_cons.mp h.holds
    have hat : ∀ x ∈ ws, (t.lose w).at x.victim = t.at x.victim := fun x hx =>
      Table.at_lose_of_ne fun he => hw (List.mem_map.mpr ⟨x, hx, he⟩)
    rw [List.foldl_cons]
    obtain rfl | hv := List.mem_cons.mp hv
    · rw [Table.at_loseAll_of_not_mem hw, Table.at_lose_self hp]
    · rw [ih ⟨hnd, fun x hx => by rw [hat x hx]; exact hrest x hx⟩ hv, hat v hv]

/-- Losses leave every presence as it was. -/
theorem Table.presence_lose (t : Table) (v : Victim) (a : Address) :
    ((t.lose v).at a).presence = (t.at a).presence := by
  by_cases ha : a = v.victim
  · subst ha
    rw [Table.lose_eq]
    split_ifs
    · rw [Table.at_put_self]; rfl
    · rfl
  · rw [Table.at_lose_of_ne ha]

theorem Table.presence_loseAll (t : Table) (victims : List Victim) (a : Address) :
    ((victims.foldl Table.lose t).at a).presence = (t.at a).presence := by
  induction victims generalizing t with
  | nil => rfl
  | cons v vs ih => rw [List.foldl_cons, ih, Table.presence_lose]

/-- A trimmed stack names nobody more often. -/
theorem Table.shedDepth_lose_le (t : Table) (v : Victim) (x : Address) :
    (t.lose v).shedDepth x ≤ t.shedDepth x :=
  Table.shedDepth_mono fun a => by
    by_cases ha : a = v.victim
    · subst ha
      rw [Table.lose_eq]
      split_ifs
      · rw [Table.at_put_self]
        refine Entry.naming_le ?_ (lessened_trimTo _ _) x
        rfl
      · exact le_rfl
    · rw [Table.at_lose_of_ne ha]

theorem Table.shedDepth_loseAll_le (t : Table) (victims : List Victim) (x : Address) :
    (victims.foldl Table.lose t).shedDepth x ≤ t.shedDepth x := by
  induction victims generalizing t with
  | nil => exact le_rfl
  | cons v vs ih => exact (ih _).trans (t.shedDepth_lose_le v x)

/-! ### Records pushed one after the other (R5, R32) -/

/-- The newest four of a list written oldest first. -/
def newestFour {α : Type} (xs : List α) : List α := xs.drop (xs.length - 4)

theorem newestFour_of_length_le {α : Type} {xs : List α} (h : xs.length ≤ 4) : newestFour xs = xs := by
  rw [newestFour, Nat.sub_eq_zero_of_le h, List.drop_zero]

theorem length_newestFour_le {α : Type} (xs : List α) : (newestFour xs).length ≤ 4 := by
  rw [newestFour, List.length_drop]
  omega

/-- What is dropped before more is appended would be dropped after it. -/
theorem newestFour_append {α : Type} (xs ys : List α) :
    newestFour (newestFour xs ++ ys) = newestFour (xs ++ ys) := by
  have hdrop : newestFour xs ++ ys = (xs ++ ys).drop (xs.length - 4) :=
    (List.drop_append_of_le_length (Nat.sub_le _ _)).symm
  rw [hdrop, newestFour, newestFour, List.drop_drop, List.length_drop, List.length_append]
  congr 1
  omega

/-- A push that is made onto a stack of at most four records keeps its newest four (R5). -/
theorem Table.debts_push_of_made {t : Table} {owner creditor : Address} {units : Nat}
    (h : t.pushMade owner creditor units = true) :
    ((t.push owner creditor units).at owner).debts =
      newestFour ((t.at owner).debts ++ [⟨creditor, units⟩]) := by
  rw [Table.at_push_self, if_pos h, newestFour, List.length_append,
    List.drop_append_of_le_length (by simp only [List.length_singleton]; omega)]
  rfl

/-- A push changes no presence. -/
theorem Table.presence_push (t : Table) (owner creditor : Address) (units : Nat) (a : Address) :
    ((t.push owner creditor units).at a).presence = (t.at a).presence := by
  rw [Table.at_push]

/-- A push names nobody more often but its creditor. -/
theorem Table.shedDepth_push_le {creditor x : Address} (hx : x ≠ creditor) (t : Table)
    (owner : Address) (units : Nat) :
    (t.push owner creditor units).shedDepth x ≤ t.shedDepth x := by
  obtain h | ⟨-, kept, -, hsub, h⟩ := t.push_cases owner creditor units
  · rw [h]
  · rw [h]
    refine Table.shedDepth_mono fun a => ?_
    rw [Table.at_put]
    split_ifs with ha
    · subst ha
      have hcount := hsub.countP_le (p := fun r => r.creditor == x)
      unfold Entry.naming Entry.isPresent
      split_ifs
      · simpa [List.countP_append, hx.symm] using hcount
      · exact le_rfl
    · exact le_rfl

/-- Records that are all pushed, one after the other: their creditors differ, and each push would be
made as the first. -/
structure Table.Pushable (t : Table) (owner : Address) (records : List DebtRecord) : Prop where
  nodup : (records.map (·.creditor)).Nodup
  made : ∀ r ∈ records, t.pushMade owner r.creditor r.units = true

/-- A push of another creditor's record leaves a push to be made. -/
theorem Table.pushMade_push {t : Table} {owner c x : Address} {n : Nat} (hx : x ≠ c)
    (h : t.pushMade owner x n = true) (units : Nat) :
    (t.push owner c units).pushMade owner x n = true := by
  obtain ⟨hunits, hown, hpresence, hdepth⟩ := Table.pushMade_iff.mp h
  exact Table.pushMade_iff.mpr ⟨hunits, hown, by rwa [Table.presence_push],
    (Table.shedDepth_push_le hx t owner units).trans_lt hdepth⟩

/-- The stack after pushes that are all made: its newest four records. -/
theorem Table.Pushable.debts_pushAll {t : Table} {owner : Address} {records : List DebtRecord}
    (h : t.Pushable owner records) (hlen : (t.at owner).debts.length ≤ 4) :
    ((t.pushAll owner records).at owner).debts = newestFour ((t.at owner).debts ++ records) := by
  induction records generalizing t with
  | nil => rw [Table.pushAll_nil, List.append_nil, newestFour_of_length_le hlen]
  | cons r rs ih =>
    obtain ⟨hr, hnd⟩ := List.nodup_cons.mp h.nodup
    obtain ⟨hmade, hrest⟩ := List.forall_mem_cons.mp h.made
    have hpushed := Table.debts_push_of_made hmade
    have hnext : (t.push owner r.creditor r.units).Pushable owner rs :=
      ⟨hnd, fun q hq => Table.pushMade_push
        (fun he => hr (List.mem_map.mpr ⟨q, hq, he⟩)) (hrest q hq) _⟩
    rw [Table.pushAll_cons, ih hnext (hpushed ▸ length_newestFour_le _), hpushed, newestFour_append,
      List.append_assoc, List.singleton_append]

/-! ### A CLAIM as a whole (R31, R32) -/

/-- A claimant's entry raised before its pushes differs in no record. -/
theorem Table.shedDepth_put_gaining (t : Table) (d : Address) (want n : Nat) (x : Address) :
    (t.put d ((t.at d).gaining want n)).shedDepth x = t.shedDepth x := by
  have hput := t.shedDepth_put d x ((t.at d).gaining want n)
  have hnaming : ((t.at d).gaining want n).naming x = (t.at d).naming x := rfl
  omega

section
variable {t : Table} {budget : Nat} {d : Address} {c : StationClass} {n : Nat}

/-- Every victim listed becomes a creditor of the claimant: its record is pushed (R5, R32). -/
theorem Table.pushable_claimRecords (want : Nat) :
    let victims := t.victimList budget d c n
    let lost := victims.foldl Table.lose t
    (lost.put d ((lost.at d).gaining want n)).Pushable d (claimRecords victims) := by
  obtain ⟨htakes, hd⟩ := t.takes_victimList budget d c n
  refine ⟨by simpa [claimRecords, Function.comp_def] using htakes.nodup, fun r hr => ?_⟩
  obtain ⟨v, hv, rfl⟩ := List.mem_map.mp hr
  obtain ⟨i, hi⟩ := List.mem_iff_getElem?.mp hv
  have he := Table.eligible_of_mem_victimList hv
  refine Table.pushMade_iff.mpr ⟨(Table.units_victimList hi).2.ne', he.other, ?_, ?_⟩
  · rw [Table.at_put_of_ne he.other, Table.presence_loseAll, he.present]
    decide
  · rw [Table.shedDepth_put_gaining]
    exact (t.shedDepth_loseAll_le _ _).trans_lt he.depth

theorem Table.applyClaim_eq_pushAll (hp : (t.at d).presence = .present) {victims : List Victim}
    (want : Nat) :
    t.applyClaim d want n victims =
      ((victims.foldl Table.lose t).put d
        (((victims.foldl Table.lose t).at d).gaining want n)).pushAll d (claimRecords victims) := by
  rw [Table.applyClaim_eq,
    if_pos (Entry.isPresent_iff.mpr ((t.presence_loseAll victims d).trans hp))]

/-- But for the claimant's, an entry is what the losses have left it. -/
theorem Table.at_applyClaim_of_ne {a : Address} (ha : a ≠ d) (hp : (t.at d).presence = .present)
    (victims : List Victim) (want : Nat) :
    (t.applyClaim d want n victims).at a = (victims.foldl Table.lose t).at a := by
  rw [Table.applyClaim_eq_pushAll hp, Table.at_pushAll_of_ne ha, Table.at_put_of_ne ha]

theorem Table.at_applyClaim_claimant (hp : (t.at d).presence = .present)
    (hlen : (t.at d).debts.length ≤ 4) (want : Nat) :
    (t.applyClaim d want n (t.victimList budget d c n)).at d =
      { t.at d with
        holding := (t.at d).holding + n
        want := want
        debts := newestFour ((t.at d).debts ++ claimRecords (t.victimList budget d c n)) } := by
  have hkept := Table.at_loseAll_of_not_mem (t.takes_victimList budget d c n).2 t
  have hdebts := (Table.pushable_claimRecords (t := t) (budget := budget) (d := d) (c := c) (n := n)
    want).debts_pushAll (by rw [Table.at_put_self, hkept]; exact hlen)
  obtain ⟨ds, hat⟩ := Table.at_pushAll_self _ d (claimRecords (t.victimList budget d c n))
  rw [hat, Table.at_put_self, hkept] at hdebts
  have hds : ds = newestFour ((t.at d).debts ++ claimRecords (t.victimList budget d c n)) := hdebts
  rw [Table.applyClaim_eq_pushAll hp, hat, Table.at_put_self, hkept, hds]
  rfl
end

/-- Settles O24: the victims are different stations, so that each loses its own units alone, and none of
them has been shed so often that the push of its record is refused. -/
theorem claimMovesUnitsFromVictimsToClaimant : Obligations.ClaimMovesUnitsFromVictimsToClaimant := by
  intro t budget d c want n ht hb hp hn
  obtain ⟨htakes, hd⟩ := t.takes_victimList budget d c n
  refine ⟨fun v hv => ?_, Table.at_applyClaim_claimant hp (ht.entries d).four want,
    fun a ha hout => ?_, Table.held_applyClaim_le hb hp hn want⟩
  · have hne := (Table.eligible_of_mem_victimList hv).other
    exact ⟨hne, (Table.at_applyClaim_of_ne hne hp _ want).trans (htakes.at_loseAll hv)⟩
  · rw [Table.at_applyClaim_of_ne ha hp, Table.at_loseAll_of_not_mem hout]

end Sys2Proof.Machine
end

section
/-! The verdict on a frame, and what a confirmed frame does in ACTIVE to the line count and, as a SAG,
to sag hold (R27, R42, R44 to R49, R144). -/

namespace Sys2Proof.Machine

/-! ### The verdict (R44 to R49) -/

theorem State.agreesWith_iff {s : State} {n : Byte} (hn : s.lineCount = some n) {f : Frame} :
    s.agreesWith f = true ↔
      f.lineCount = n + 1 ∧ s.table.contentAgrees s.cfg.budget f = true := by
  simp [State.agreesWith, State.countAgrees, hn]

/-- No frame passes the line count check of a station without a line count. -/
theorem State.lineCount_of_agreesWith {s : State} {f : Frame} (h : s.agreesWith f = true) :
    ∃ n, s.lineCount = some n ∧ f.lineCount = n + 1 := by
  cases hn : s.lineCount with
  | none => simp [State.agreesWith, State.countAgrees, hn] at h
  | some n => exact ⟨n, rfl, ((State.agreesWith_iff hn).mp h).1⟩

section
variable {t : Table} {budget : Nat} {f : Frame}

theorem Table.contentAgrees_sag (h : f.payload = .sag) : t.contentAgrees budget f = true := by
  rw [Table.contentAgrees, h]

theorem Table.contentAgrees_evict_iff {xs : List Address} (h : f.payload = .evict xs) :
    t.contentAgrees budget f = true ↔ f.sender ∉ xs := by
  simp [Table.contentAgrees, h]

theorem Table.contentAgrees_release_iff {want k : Nat} {list : List Settlement}
    (h : f.payload = .release want k list) :
    t.contentAgrees budget f = true ↔
      (t.at f.sender).presence = .present ∧ (t.at f.sender).cls = classOfRank f.rank ∧ k ≠ 0 ∧
        k ≤ (t.at f.sender).holding ∧ want = (t.at f.sender).holding - k ∧
        list = t.settlementList f.sender k := by
  simp [Table.contentAgrees, h, Entry.isPresent_iff, and_assoc]

theorem Table.contentAgrees_claim_iff {want n : Nat} {victims : List Victim}
    (h : f.payload = .claim want n victims) :
    t.contentAgrees budget f = true ↔
      (t.at f.sender).presence = .present ∧ (t.at f.sender).cls = classOfRank f.rank ∧ n ≠ 0 ∧
        (t.at f.sender).holding + n ≤ want ∧
        n ≤ t.free budget + t.sheddable f.sender (classOfRank f.rank) ∧
        victims = t.victimList budget f.sender (classOfRank f.rank) n := by
  simp [Table.contentAgrees, h, Entry.isPresent_iff, and_assoc]

theorem Table.contentAgrees_rejoin {floor want holding : Nat} {debts : List DebtRecord}
    (h : f.payload = .announce true floor want holding debts) :
    t.contentAgrees budget f = true := by
  rw [Table.contentAgrees, h]

theorem Table.contentAgrees_plain_iff {floor want holding : Nat} {debts : List DebtRecord}
    (h : f.payload = .announce false floor want holding debts) :
    t.contentAgrees budget f = true ↔
      ((t.at f.sender).presence = .present →
        (t.at f.sender).cls = classOfRank f.rank ∧ floor = (t.at f.sender).floor ∧
          holding = (t.at f.sender).holding ∧ debts = (t.at f.sender).debts) ∧
      ((t.at f.sender).presence ≠ .present → holding = 0 ∧ debts = []) := by
  simp only [Table.contentAgrees, h]
  by_cases hp : (t.at f.sender).presence = .present
  · simp [Entry.isPresent, hp, and_assoc]
  · simp [Entry.isPresent, hp]

end

/-- Settles O20: the line count check, and the content check of each kind of frame. -/
theorem verdictIsTheSumOfItsChecks : Obligations.VerdictIsTheSumOfItsChecks := by
  intro f n s hn
  refine (State.agreesWith_iff hn).trans (and_congr_right fun _ => ?_)
  cases hf : f.payload with
  | sag => exact iff_true_intro (Table.contentAgrees_sag hf)
  | evict xs => exact Table.contentAgrees_evict_iff hf
  | release want k list => exact Table.contentAgrees_release_iff hf
  | claim want k victims => exact Table.contentAgrees_claim_iff hf
  | announce rejoin floor want holding debts =>
    cases rejoin with
    | true => exact iff_true_intro (Table.contentAgrees_rejoin hf)
    | false => exact Table.contentAgrees_plain_iff hf

/-! ### FRAME_CONFIRMED in ACTIVE (R26, R27) -/

/-- A frame that this station has followed and not dissented from is confirmed for it in ACTIVE. -/
theorem exec_frameConfirmed_of_active {s : State} {f : Frame} (hclocked : s.clocked = true)
    (hactive : s.part.state = .active) (hslot : s.slotFrame = some f)
    (hverdict : s.line.verdict ≠ some .disagree) (ack : Bit) :
    exec (.frameConfirmed ack) s = .next (s.confirmActive f s.isSender) := by
  simp [exec, execFrameConfirmed, hslot, hclocked, hverdict, hactive]

/-- Otherwise the command changes nothing (log 1). -/
theorem exec_frameConfirmed_cases {ack : Bit} {s t : State} {f : Frame}
    (hactive : s.part.state = .active) (hslot : s.slotFrame = some f)
    (h : exec (.frameConfirmed ack) s = .next t) : t = s ∨ t = s.confirmActive f s.isSender := by
  simp only [exec, execFrameConfirmed, hslot, hactive] at h
  split_ifs at h
  · exact .inl (Host.Outcome.next.inj h).symm
  · exact .inr (Host.Outcome.next.inj h).symm

@[simp] theorem State.counted_lineCount (s : State) (f : Frame) (own : Bool) :
    (s.counted f own).lineCount = s.lineCount := by
  cases own <;> rfl

theorem State.activeEffects_lineCount (s : State) (f : Frame) (own eager : Bool) (n : Nat) :
    (s.activeEffects f own eager n).lineCount = s.lineCount := by
  unfold State.activeEffects State.ownEvicted
  dsimp only
  split
  case h_1 => split_ifs <;> rfl
  case h_2 => split_ifs <;> simp
  case h_3 => rfl
  case h_4 => split_ifs <;> simp
  case h_5 => split_ifs <;> rfl

theorem State.applyActive_lineCount (s : State) (f : Frame) (own : Bool) :
    (s.applyActive f own).lineCount = some f.lineCount := by
  simp [State.applyActive, State.activeEffects_lineCount]

theorem State.confirmActive_lineCount (s : State) (f : Frame) (own : Bool) :
    (s.confirmActive f own).lineCount =
      if s.agreesWith f = true then some f.lineCount else s.lineCount := by
  rw [State.confirmActive_eq, State.react_lineCount, State.decideDemand_lineCount]
  split_ifs
  · exact State.applyActive_lineCount _ _ _
  · exact State.counted_lineCount _ _ _

/-- A frame that does not follow from the table leaves the table as it was (R27, R50). -/
theorem State.confirmActive_table_of_not_agrees {s : State} {f : Frame}
    (h : ¬ s.agreesWith f = true) (own : Bool) : (s.confirmActive f own).table = s.table := by
  rw [State.confirmActive_eq, if_neg h]
  simp [(Quiet.counted s f own).table]

/-- Settles O30: the table and the line count move only by a frame that passes the line count check. -/
theorem onlyTheNextLineCountIsApplied : Obligations.OnlyTheNextLineCountIsApplied := by
  intro ack f s t hactive hslot h hmoved
  obtain rfl | rfl := exec_frameConfirmed_cases hactive hslot h
  · simp at hmoved
  · have hcount := s.confirmActive_lineCount f s.isSender
    by_cases hagree : s.agreesWith f = true
    · obtain ⟨n, hn, hnext⟩ := State.lineCount_of_agreesWith hagree
      exact ⟨n, hn, hnext, hcount.trans (if_pos hagree)⟩
    · rw [hcount, if_neg hagree, State.confirmActive_table_of_not_agrees hagree] at hmoved
      simp at hmoved

/-! ### A confirmed SAG (R42, R144, R145) -/

/-- In sag hold the target is within the floor level (R145). -/
theorem State.target_le_floorLevel {s : State} (h : s.sense.sagHold.isSome = true) :
    s.target ≤ s.cfg.floorLevel := by
  have hlimit : s.sagLimit = some s.cfg.floorLevel := if_pos h
  unfold State.target
  rw [hlimit]
  exact (capped_le_left _ _).trans ((capped_le_left _ _).trans (capped_le_of_some _ _))

/-- A counted frame leaves flags and local sags, sense and power alone. -/
theorem State.counted_keeps (s : State) (f : Frame) (own : Bool) :
    (s.counted f own).monitor.flags = s.monitor.flags ∧
      (s.counted f own).monitor.counters.localSags = s.monitor.counters.localSags ∧
      (s.counted f own).sense = s.sense ∧ (s.counted f own).power = s.power := by
  cases own <;> exact ⟨rfl, rfl, rfl, rfl⟩

/-- The application of a SAG: the line count and the sender's silence age, and in power RUN sag hold. -/
theorem State.applyActive_sag {f : Frame} (hf : f.payload = .sag) (s : State) (own : Bool) :
    s.applyActive f own = { s.adopt s.table f with
      sense := { s.sense with
        sagHold := if s.power.state = .run then some s.cfg.sagHoldTime else s.sense.sagHold } } := by
  simp only [State.applyActive, Table.applyActive, hf, State.raiseIf, Bool.false_eq_true, if_false,
    State.activeEffects, State.adopt_power]
  split_ifs <;> rfl

/-- Settles O34: a SAG writes sag hold and the sender's silence age, and the Load Drive follows the limit
that sag hold sets. -/
theorem confirmedSagStartsSagHold : Obligations.ConfirmedSagStartsSagHold := by
  intro ack f s hclocked hactive hslot hverdict hagree hf
  have hquiet := Quiet.counted s f s.isSender
  obtain ⟨hflags, hsags, hsense, hpower⟩ := s.counted_keeps f s.isSender
  have hcfg : (s.counted f s.isSender).cfg = s.cfg := by simp only [State.cfg, hquiet.config]
  refine ⟨_, exec_frameConfirmed_of_active hclocked hactive hslot hverdict ack, ?_⟩
  have hhold : (s.confirmActive f s.isSender).sense.sagHold =
      if s.power.state = .run then some s.cfg.sagHoldTime else s.sense.sagHold := by
    rw [State.confirmActive_eq, if_pos hagree, State.applyActive_sag hf, hpower, hcfg, hsense]
    simp
  have hmonitor : (s.confirmActive f s.isSender).monitor = (s.counted f s.isSender).monitor := by
    rw [State.confirmActive_eq, if_pos hagree, State.applyActive_sag hf]
    simp
  refine ⟨?_, by rw [State.confirmActive_lineCount, if_pos hagree], by rw [hmonitor, hflags],
    by rw [hmonitor, hsags], fun hrun => ?_, fun hrun => by rw [hhold, if_neg hrun]⟩
  · rw [State.confirmActive_eq, if_pos hagree, State.applyActive_sag hf]
    simp [hquiet.table]
  · rw [if_pos hrun] at hhold
    have hfloor := State.target_le_floorLevel (s := s.confirmActive f s.isSender) (by rw [hhold]; rfl)
    have hconfig := (confirmActive_running (ack := ack) hslot s.isSender).setup.config
    rw [State.cfg, hconfig] at hfloor
    exact ⟨hhold, (State.react_output_le_target _).trans hfloor⟩

end Sys2Proof.Machine
end

section
/-! The size of an own claim (R52), and the withdrawal of one that is not valid (R110, R114). -/

namespace Sys2Proof.Machine

/-! ### The target level (R52) -/

theorem levelCovered_le (unitsPerLevel holding room k : Nat) :
    levelCovered unitsPerLevel holding room k ≤ k := by
  induction k with
  | zero => exact le_rfl
  | succ k ih =>
    unfold levelCovered
    split_ifs
    · exact le_rfl
    · exact ih.trans (Nat.le_succ k)

/-- The room covers what the level lacks. -/
theorem levelCovered_covered (unitsPerLevel holding room k : Nat) :
    levelCovered unitsPerLevel holding room k * unitsPerLevel - holding ≤ room := by
  induction k with
  | zero => simp [levelCovered]
  | succ k ih =>
    unfold levelCovered
    split_ifs with h
    · exact h
    · exact ih

theorem le_levelCovered {unitsPerLevel holding room level k : Nat} (hk : level ≤ k)
    (hroom : level * unitsPerLevel - holding ≤ room) :
    level ≤ levelCovered unitsPerLevel holding room k := by
  induction k with
  | zero => exact hk
  | succ k ih =>
    unfold levelCovered
    split_ifs with h
    · exact hk
    · refine ih (Nat.le_of_lt_succ (hk.lt_of_ne ?_))
      rintro rfl
      exact h hroom

/-- A target level that the allowed level already reaches makes no valid CLAIM (R52, R115). -/
theorem State.valid_claim_of_le {s : State} (h : s.targetLevel ≤ s.allowedLevel) :
    s.valid .claim = false := by
  simp [State.valid, Nat.not_lt.mpr h]

/-! ### What a start opportunity withdraws (R114) -/

theorem Outbox.has_remove (o : Outbox) (j k : FrameKind) :
    (o.remove j).has k = (o.has k && k != j) := by
  cases j <;> cases k <;> simp [Outbox.remove, Outbox.has]

theorem Outbox.has_removeAll (o : Outbox) (ks : List FrameKind) (k : FrameKind) :
    (ks.foldl Outbox.remove o).has k = (o.has k && !ks.contains k) := by
  induction ks generalizing o with
  | nil => simp
  | cons j js ih =>
    rw [List.foldl_cons, ih, Outbox.has_remove, List.contains_cons, Bool.not_or, Bool.and_assoc]
    rfl

theorem mem_kindOrder (k : FrameKind) : k ∈ kindOrder := by cases k <;> decide

theorem pairwise_kindOrder : kindOrder.Pairwise fun j k => j.code < k.code := by decide

/-- A request is withdrawn where neither it nor one tested before it is valid (R114). -/
theorem State.mem_withdrawn {s : State} {k : FrameKind} (hhas : s.line.outbox.has k = true)
    (hinvalid : ∀ j : FrameKind, j.code ≤ k.code → s.line.outbox.has j = true →
      s.valid j = false) : k ∈ s.withdrawn := by
  have hpassed : ∀ j : FrameKind, j.code ≤ k.code →
      (!(s.line.outbox.has j && s.valid j)) = true := fun j hj => by
    cases hj' : s.line.outbox.has j with
    | false => rfl
    | true => rw [hinvalid j hj hj']; rfl
  obtain ⟨earlier, later, horder⟩ := List.append_of_mem (mem_kindOrder k)
  have hsorted := pairwise_kindOrder
  rw [horder] at hsorted
  obtain ⟨-, -, hbefore⟩ := List.pairwise_append.mp hsorted
  refine List.mem_filter.mpr ⟨?_, hhas⟩
  rw [horder, List.takeWhile_append_of_pos fun j hj =>
      hpassed j (hbefore j hj k List.mem_cons_self).le,
    List.takeWhile_cons, if_pos (hpassed k le_rfl)]
  exact List.mem_append_right _ List.mem_cons_self

/-! ### The Demand Unit when its CLAIM is withdrawn (R107, R110) -/

theorem State.place_release_keeps_claim (s : State) :
    (s.place .release).line.outbox.claim = s.line.outbox.claim ∧
      (s.place .release).claimDue = s.claimDue := by
  unfold State.place
  split_ifs <;> exact ⟨rfl, rfl⟩

/-- A decision where the claim condition fails places no CLAIM (R107, R109). -/
theorem State.decideDemand_keeps_claim {s : State} (h : s.claimDue = false) :
    s.decideDemand.line.outbox.claim = s.line.outbox.claim := by
  obtain ⟨hclaim, hdue⟩ := s.place_release_keeps_claim
  unfold State.decideDemand
  by_cases hr : s.releaseDue = true
  · simp [hr, hdue, h, hclaim]
  · simp [hr, h]

/-- A withdrawn CLAIM is not placed again: where its condition holds it waits for room (R110). -/
theorem State.afterWithdrawal_keeps_claim {before s : State} (hmem : .claim ∈ before.withdrawn)
    (hdue : s.claimDue = before.claimDue) :
    (State.afterWithdrawal before s).line.outbox.claim = s.line.outbox.claim := by
  have hcontains : before.withdrawn.contains .claim = true := List.contains_iff_mem.mpr hmem
  unfold State.afterWithdrawal State.waits
  cases hc : before.claimDue with
  | true =>
    rw [if_pos (by rw [hcontains]; rfl)]
    split_ifs
    · exact s.place_release_keeps_claim.1
    · rfl
  | false =>
    rw [if_neg (by simp), if_pos (by rw [hcontains, Bool.or_true])]
    exact State.decideDemand_keeps_claim (hdue.trans hc)

/-- A start opportunity takes a CLAIM that it tests and finds invalid out of the outbox (R114). -/
theorem exec_startOpportunity_withdraws_claim {s : State} (hclocked : s.clocked = true)
    (hready : s.line.position = .ready) (hmay : s.mayTransmit = true)
    (hmem : .claim ∈ s.withdrawn) :
    ∃ t, exec .startOpportunity s = .next t ∧ t.line.outbox.claim = false := by
  have hremoved : (s.withdrawn.foldl Outbox.remove s.line.outbox).claim = false :=
    (Outbox.has_removeAll _ _ .claim).trans (by simp [hmem])
  refine ⟨_, if_pos (by simp [hclocked, hready, hmay]), ?_⟩
  rw [State.afterWithdrawal_keeps_claim hmem]
  · split <;> exact hremoved
  · split <;> rfl

/-- Settles O12: the search for the target level goes down from the want level, and stops at the first
that the room covers. -/
theorem claimIsSizedByTheLargestCoveredLevel : Obligations.ClaimIsSizedByTheLargestCoveredLevel := by
  intro s
  refine ⟨⟨levelCovered_le _ _ _ _, levelCovered_covered _ _ _ _⟩,
    fun level hle hroom => le_levelCovered hle hroom, rfl, fun htarget => ?_⟩
  have hinvalid := State.valid_claim_of_le htarget
  refine ⟨hinvalid, fun hclocked hready hmay hhas hearlier => ?_⟩
  refine exec_startOpportunity_withdraws_claim hclocked hready hmay
    (State.mem_withdrawn hhas fun j hj hj' => ?_)
  obtain hlt | heq := hj.lt_or_eq
  · exact hearlier j hlt hj'
  · have hclaim : j = .claim := by cases j <;> simp [FrameKind.code] at heq ⊢
    exact hclaim ▸ hinvalid

end Sys2Proof.Machine
end

section
/-! Who drives the line, and what the outbox holds in each participation and power state (R57, R88,
R112 to R114), under the operations that the commands share. -/

namespace Sys2Proof.Machine

/-! ### Where a frame is permitted (R57, R113) -/

theorem State.activeRun_iff {s : State} :
    s.activeRun = true ↔ s.part.state = .active ∧ s.power.state = .run := by
  simp [State.activeRun]

theorem State.mayTransmit_iff {s : State} :
    s.mayTransmit = true ↔
      s.power.state = .run ∧ (s.part.state = .active ∨ s.part.state = .gather .rejoin) := by
  simp [State.mayTransmit]

/-- A placement is taken in ACTIVE with power RUN, or is the rejoin ANNOUNCE of phase REJOIN (R113). -/
theorem State.accepts_cases {s : State} {r : Request} (h : s.accepts r = true) :
    r = .rejoin ∧ s.part.state = .gather .rejoin ∨ r ≠ .rejoin ∧ s.activeRun = true := by
  cases r
  case rejoin => exact .inl ⟨rfl, by simpa [State.accepts] using h⟩
  all_goals exact .inr ⟨by decide, h⟩

theorem State.place_cases (s : State) (r : Request) :
    s.place r = s ∨ s.accepts r = true ∧
      s.place r = { s with line := { s.line with outbox := s.line.outbox.add r } } := by
  unfold State.place
  split_ifs with h
  · exact .inr ⟨h, rfl⟩
  · exact .inl rfl

/-! ### Requests added and removed (R112, R117) -/

/-- A request that stands stays under a placement. -/
theorem Outbox.has_add {o : Outbox} {k : FrameKind} (r : Request) (h : o.has k = true) :
    (o.add r).has k = true := by
  cases r <;> cases k <;> simp_all [Outbox.add, Outbox.has]

/-- Only the placement of a rejoin ANNOUNCE marks the ANNOUNCE request so. -/
theorem Outbox.announce_add {o : Outbox} {r : Request} (hr : r ≠ .rejoin)
    (h : o.announce ≠ some .rejoin) : (o.add r).announce ≠ some .rejoin := by
  cases r
  case plain =>
    cases ha : o.announce with
    | none => simp [Outbox.add, ha]
    | some k => simpa [Outbox.add, ha] using h
  case rejoin => contradiction
  all_goals exact h

theorem Outbox.empty_remove (k : FrameKind) : Outbox.empty.remove k = Outbox.empty := by
  cases k <;> rfl

theorem Outbox.announce_remove {o : Outbox} (k : FrameKind) (h : o.announce ≠ some .rejoin) :
    (o.remove k).announce ≠ some .rejoin := by
  cases k
  case announce => nofun
  all_goals exact h

namespace Outbox.RejoinAlone

theorem add_rejoin {o : Outbox} (h : o.RejoinAlone) : (o.add .rejoin).RejoinAlone := by
  obtain rfl | rfl := h <;> exact .inr rfl

theorem remove {o : Outbox} (h : o.RejoinAlone) (k : FrameKind) : (o.remove k).RejoinAlone := by
  obtain rfl | rfl := h
  · exact .inl (Outbox.empty_remove k)
  · cases k
    case announce => exact .inl rfl
    all_goals exact .inr rfl

theorem remove_announce {o : Outbox} (h : o.RejoinAlone) : o.remove .announce = Outbox.empty := by
  obtain rfl | rfl := h <;> rfl

/-- A request that stands is the rejoin ANNOUNCE. -/
theorem of_has {o : Outbox} (h : o.RejoinAlone) {k : FrameKind} (hk : o.has k = true) :
    k = .announce ∧ o.announce = some .rejoin := by
  obtain rfl | rfl := h
  · cases k <;> contradiction
  · cases k
    case announce => exact ⟨rfl, rfl⟩
    all_goals contradiction

end Outbox.RejoinAlone

/-! ### The law in two parts -/

/-- What the station drives and the frame it follows: the part of the law that an ended frame leaves
nothing to. -/
structure DriveLaw (s : State) : Prop where
  sender : s.line.role = .sender →
    s.line.position = .frame ∧ s.mayTransmit = true ∧
    ∃ f, s.line.tx = some f ∧ s.line.outbox.has f.payload.kind = true ∧
      (s.part.state ≠ .active → ∃ floor want, f.payload = .announce true floor want 0 [])
  ownFrame : s.line.drive = .ownFrame → s.line.role = .sender
  slots : s.line.drive = .ackSlot ∨ s.line.drive = .dissentSlot ∨ s.line.drive = .jam →
    s.part.state = .active
  received : ∀ f, s.line.received = some f → f.sender ≠ s.own

/-- What the outbox holds and where the line stands, by the participation and the power state. -/
structure ModeLaw (s : State) : Prop where
  outbox : s.line.outbox = Outbox.empty ∨ s.activeRun = true ∨ s.part.state = .gather .rejoin
  rejoin : s.part.state = .gather .rejoin → s.line.outbox.RejoinAlone
  active : s.part.state = .active → s.line.outbox.announce ≠ some .rejoin
  off : s.part.state = .sleep ∨ s.part.state.isHalted = true → s.line.position = .off
  start : s.part.state = .start → s.line.position = .off ∨ s.line.position = .seek
  listen : s.power.state = .listen → s.part.state = .active
  dormant : s.power.state = .dormant → s.part.state = .sleep

/-- The line law but for the load and what LISTEN promises of the table. -/
structure LineRules (s : State) : Prop where
  drive : DriveLaw s
  mode : ModeLaw s

theorem LineLaw.rules {s : State} (h : LineLaw s) : LineRules s :=
  ⟨⟨h.sender, h.ownFrame, h.slots, h.received⟩,
    ⟨h.outbox, h.rejoin, h.active, h.off, h.start, h.listen, h.dormant⟩⟩

theorem LineRules.lineLaw {s : State} (h : LineRules s) (hload : LoadLaw s)
    (hrest : s.power.state = .listen → s.ownHolding = 0 ∧ s.ownShedDepth = 0) : LineLaw s where
  load := hload
  sender := h.drive.sender
  ownFrame := h.drive.ownFrame
  slots := h.drive.slots
  outbox := h.mode.outbox
  rejoin := h.mode.rejoin
  active := h.mode.active
  received := h.drive.received
  off := h.mode.off
  start := h.mode.start
  listen := h.mode.listen
  dormant := h.mode.dormant
  rest := hrest

/-! ### What a command does to the line -/

/-- The line, the participation and the power state and the loader are as before. -/
structure SameLine (s t : State) : Prop where
  line : t.line = s.line
  state : t.part.state = s.part.state
  power : t.power.state = s.power.state
  loader : t.loader = s.loader

/-- The rules of the line are kept, and LISTEN is not entered. -/
structure LineMove (s t : State) : Prop where
  kept : LineRules s → LineRules t
  awake : s.power.state ≠ .listen → t.power.state ≠ .listen

theorem SameLine.own {s t : State} (h : SameLine s t) : t.own = s.own := by
  rw [State.own, h.loader]; rfl

theorem SameLine.rules {s t : State} (h : SameLine s t) (hs : LineRules s) : LineRules t := by
  have hmay : t.mayTransmit = s.mayTransmit := by simp only [State.mayTransmit, h.state, h.power]
  have hrun : t.activeRun = s.activeRun := by simp only [State.activeRun, h.state, h.power]
  obtain ⟨⟨hsender, hown, hslots, hreceived⟩,
    ⟨houtbox, hrejoin, hactive, hoff, hstart, hlisten, hdormant⟩⟩ := hs
  constructor <;> constructor <;> simpa only [h.line, h.state, h.power, h.own, hmay, hrun]

theorem SameLine.trans {s t u : State} (h : SameLine s t) (k : SameLine t u) : SameLine s u :=
  ⟨k.line.trans h.line, k.state.trans h.state, k.power.trans h.power, k.loader.trans h.loader⟩

theorem SameLine.move {s t : State} (h : SameLine s t) : LineMove s t :=
  ⟨h.rules, fun hs => h.power ▸ hs⟩

namespace LineMove

theorem refl (s : State) : LineMove s s := ⟨id, id⟩

theorem trans {s t u : State} (h : LineMove s t) (k : LineMove t u) : LineMove s u :=
  ⟨k.kept ∘ h.kept, k.awake ∘ h.awake⟩

theorem react (s : State) : LineMove s s.react := SameLine.move (by constructor <;> simp)

theorem count (s : State) (c : CounterName) (n : Nat) : LineMove s (s.count c n) :=
  SameLine.move ⟨rfl, rfl, rfl, rfl⟩

theorem raise (s : State) (f : EventFlag) : LineMove s (s.raise f) :=
  SameLine.move ⟨rfl, rfl, rfl, rfl⟩

theorem raiseIf (s : State) (c : Bool) (f : EventFlag) : LineMove s (s.raiseIf c f) :=
  SameLine.move (by constructor <;> simp)

/-- A guarded command whose effect is such a move. -/
theorem of_guard {p : Prop} [Decidable p] {u s t : State}
    (h : (if p then .next u else .next s : Host.Outcome State Fault Refusal) = .next t)
    (hu : p → LineMove s u) : LineMove s t := by
  obtain ⟨hp, rfl⟩ | rfl := next_of_guard h
  · exact hu hp
  · exact .refl _

end LineMove

/-! ### Placements (R112, R113) -/

theorem DriveLaw.place {s : State} (hs : DriveLaw s) (r : Request) : DriveLaw (s.place r) := by
  obtain h | ⟨-, h⟩ := s.place_cases r <;> rw [h]
  · exact hs
  · refine ⟨fun hrole => ?_, hs.ownFrame, hs.slots, hs.received⟩
    obtain ⟨hpos, hmay, f, htx, hhas, hrejoin⟩ := hs.sender hrole
    exact ⟨hpos, hmay, f, htx, Outbox.has_add r hhas, hrejoin⟩

theorem ModeLaw.place {s : State} (hs : ModeLaw s) (r : Request) : ModeLaw (s.place r) := by
  obtain h | ⟨htaken, h⟩ := s.place_cases r <;> rw [h]
  · exact hs
  obtain ⟨rfl, hgather⟩ | ⟨hr, hrun⟩ := State.accepts_cases htaken
  · exact ⟨.inr (.inr hgather), fun _ => (hs.rejoin hgather).add_rejoin,
      fun ha => absurd (ha.symm.trans hgather) (by decide), hs.off, hs.start, hs.listen, hs.dormant⟩
  · obtain ⟨hactive, -⟩ := State.activeRun_iff.mp hrun
    exact ⟨.inr (.inl hrun), fun hg => absurd (hg.symm.trans hactive) (by decide),
      fun _ => Outbox.announce_add hr (hs.active hactive), hs.off, hs.start, hs.listen, hs.dormant⟩

namespace LineMove

theorem place (s : State) (r : Request) : LineMove s (s.place r) :=
  ⟨fun h => ⟨h.drive.place r, h.mode.place r⟩, by simp⟩

theorem placeIf (s : State) (c : Bool) (r : Request) : LineMove s (if c then s.place r else s) := by
  split_ifs
  · exact .place s r
  · exact .refl s

theorem decideDemand (s : State) : LineMove s s.decideDemand :=
  (LineMove.placeIf s _ _).trans (.placeIf _ _ _)

theorem decideSince (s before : State) : LineMove s (s.decideSince before) := by
  unfold State.decideSince
  split_ifs
  · exact .refl s
  · exact .decideDemand s

theorem announceDue (s : State) : LineMove s s.announceDue :=
  have hsame : SameLine s { s with part := { s.part with announceTimer := s.cfg.announcePeriod } } :=
    ⟨rfl, rfl, rfl, rfl⟩
  hsame.move.trans (.place _ .plain)

theorem lookForSilence (s : State) : LineMove s s.lookForSilence := .placeIf s _ _

end LineMove

/-! ### A station that drives nothing -/

/-- The station sends no frame, drives nothing, and holds no frame with its own address. -/
structure Silent (s : State) : Prop where
  role : s.line.role ≠ .sender
  drive : s.line.drive = .none
  received : ∀ f, s.line.received = some f → f.sender ≠ s.own

theorem Silent.driveLaw {s : State} (h : Silent s) : DriveLaw s where
  sender hrole := absurd hrole h.role
  ownFrame hd := absurd (h.drive.symm.trans hd) (by decide)
  slots hd := by simp [h.drive] at hd
  received := h.received

/-- The same line but for the outbox. -/
theorem Silent.of_line {s t : State} (h : Silent s) {o : Outbox}
    (hline : t.line = { s.line with outbox := o }) (hloader : t.loader = s.loader) : Silent t :=
  ⟨by rw [hline]; exact h.role, by rw [hline]; exact h.drive,
    by rw [hline, State.own, hloader]; exact h.received⟩

theorem Silent.of_endFrame {t : State} {l : LineInterface} {p : LinePosition}
    (h : t.line = l.endFrame p) : Silent t := by
  constructor <;> simp [h, LineInterface.endFrame]

/-- Where no frame is permitted nothing is driven (R57). -/
theorem DriveLaw.silent {s : State} (hs : DriveLaw s) (hactive : s.part.state ≠ .active)
    (hrejoin : s.part.state ≠ .gather .rejoin) : Silent s := by
  have hrole : s.line.role ≠ .sender := fun h => by
    obtain ⟨-, hmay, -⟩ := hs.sender h
    obtain ⟨-, ha | hg⟩ := State.mayTransmit_iff.mp hmay
    · exact hactive ha
    · exact hrejoin hg
  refine ⟨hrole, ?_, hs.received⟩
  cases hd : s.line.drive with
  | none => rfl
  | ownFrame => exact absurd (hs.ownFrame hd) hrole
  | ackSlot => exact absurd (hs.slots (.inl hd)) hactive
  | dissentSlot => exact absurd (hs.slots (.inr (.inl hd))) hactive
  | jam => exact absurd (hs.slots (.inr (.inr hd))) hactive

/-! ### The line position (R88) -/

theorem ModeLaw.setLine {s : State} (hs : ModeLaw s) {l : LineInterface}
    (hout : l.outbox = s.line.outbox)
    (hoff : s.part.state = .sleep ∨ s.part.state.isHalted = true → l.position = .off)
    (hstart : s.part.state = .start → l.position = .off ∨ l.position = .seek) :
    ModeLaw { s with line := l } :=
  ⟨by rw [hout]; exact hs.outbox, by rw [hout]; exact hs.rejoin, by rw [hout]; exact hs.active, hoff,
    hstart, hs.listen, hs.dormant⟩

/-- The station has found the line: the line position is neither OFF nor SEEK. -/
def LinePosition.OnLine (p : LinePosition) : Prop := p ≠ .off ∧ p ≠ .seek

theorem LinePosition.onLine_of_eq {p q : LinePosition} (h : p = q) (hoff : q ≠ .off)
    (hseek : q ≠ .seek) : p.OnLine := h ▸ ⟨hoff, hseek⟩

/-- A station that has found the line is in none of the states that bind its position, so that the line
position may be any next. -/
theorem ModeLaw.setLine_of_onLine {s : State} (hs : ModeLaw s)
    (hpos : s.line.position.OnLine) {l : LineInterface}
    (hout : l.outbox = s.line.outbox) : ModeLaw { s with line := l } :=
  hs.setLine hout (fun h => absurd (hs.off h) hpos.1) fun h =>
    (hs.start h).elim (absurd · hpos.1) (absurd · hpos.2)

theorem LineRules.endFrame {s : State} (hs : ModeLaw s)
    (hpos : s.line.position.OnLine) (p : LinePosition) :
    LineRules (s.endFrame p) :=
  ⟨(Silent.of_endFrame (State.endFrame_line s p)).driveLaw, hs.setLine_of_onLine hpos rfl⟩

theorem LineMove.endFrame {s : State} (hpos : s.line.position.OnLine)
    (p : LinePosition) : LineMove s (s.endFrame p) :=
  ⟨fun h => .endFrame h.mode hpos p, id⟩

theorem LineMove.becomeReceiver {s : State} (hpos : s.line.position.OnLine) :
    LineMove s s.becomeReceiver where
  kept h :=
    have hsilent : Silent s.becomeReceiver :=
      ⟨by simp, rfl, by simp [LineInterface.endFrame]⟩
    ⟨hsilent.driveLaw, h.mode.setLine_of_onLine hpos rfl⟩
  awake := id

/-- Requests withdrawn or confirmed (R114, R117). -/
theorem ModeLaw.removeAll {s : State} (hs : ModeLaw s) (ks : List FrameKind) :
    ModeLaw { s with line := { s.line with outbox := ks.foldl Outbox.remove s.line.outbox } } where
  outbox := hs.outbox.imp_left fun h =>
    List.foldlRecOn (motive := (· = Outbox.empty)) ks Outbox.remove h
      fun _ ho k _ => ho ▸ Outbox.empty_remove k
  rejoin hg := List.foldlRecOn ks Outbox.remove (hs.rejoin hg) fun _ ho k _ => ho.remove k
  active ha :=
    List.foldlRecOn (motive := fun o => o.announce ≠ some .rejoin) ks Outbox.remove (hs.active ha)
      fun _ ho k _ => Outbox.announce_remove k ho
  off := hs.off
  start := hs.start
  listen := hs.listen
  dormant := hs.dormant

/-! ### Moves between participation and power states -/

theorem ModeLaw.of_empty {s : State} (hempty : s.line.outbox = Outbox.empty)
    (hoff : s.part.state = .sleep ∨ s.part.state.isHalted = true → s.line.position = .off)
    (hstart : s.part.state = .start → s.line.position = .off ∨ s.line.position = .seek)
    (hlisten : s.power.state = .listen → s.part.state = .active)
    (hdormant : s.power.state = .dormant → s.part.state = .sleep) : ModeLaw s :=
  ⟨.inl hempty, fun _ => .inl hempty, fun _ => by rw [hempty]; nofun, hoff, hstart, hlisten, hdormant⟩

/-- The outbox is empty outside ACTIVE with power RUN and phase REJOIN. -/
theorem ModeLaw.outbox_empty {s : State} (hs : ModeLaw s) (hrun : s.activeRun = false)
    (hrejoin : s.part.state ≠ .gather .rejoin) : s.line.outbox = Outbox.empty := by
  obtain h | h | h := hs.outbox
  · exact h
  · exact absurd (h.symm.trans hrun) (by decide)
  · exact absurd h hrejoin

theorem ModeLaw.not_dormant {s : State} (hs : ModeLaw s) (h : s.part.state ≠ .sleep) :
    s.power.state ≠ .dormant := fun hd => h (hs.dormant hd)

theorem PowerControl.woken_ne_listen (p : PowerControl) : p.woken ≠ .listen := by
  unfold PowerControl.woken
  split_ifs with h
  · decide
  · exact h

theorem PowerControl.woken_ne_dormant {p : PowerControl} (h : p.state ≠ .dormant) :
    p.woken ≠ .dormant := by
  unfold PowerControl.woken
  split_ifs
  · decide
  · exact h

/-- LISTEN ends and the station stays ACTIVE (R151, R152). -/
theorem LineMove.endListen (s : State) : LineMove s s.endListen := by
  by_cases h : s.power.state = .listen
  · have hpower : s.endListen.power.state = .run := by simp [PowerControl.woken, h]
    refine ⟨fun hs => ?_, fun hn => absurd h hn⟩
    have hactive := hs.mode.listen h
    have hrun : s.activeRun = false := by simp [State.activeRun, h]
    have hempty := hs.mode.outbox_empty hrun (by rw [hactive]; decide)
    refine ⟨⟨fun hrole => ?_, ?_, ?_, ?_⟩, .of_empty ?_ ?_ ?_ ?_ ?_⟩
    · obtain ⟨-, hmay, -⟩ := hs.drive.sender (by simpa using hrole)
      exact absurd (State.mayTransmit_iff.mp hmay).1 (by rw [h]; decide)
    · simpa using hs.drive.ownFrame
    · simpa using hs.drive.slots
    · simpa using hs.drive.received
    · simpa using hempty
    · simpa using hs.mode.off
    · simpa using hs.mode.start
    · exact fun hl => absurd (hpower.symm.trans hl) (by decide)
    · exact fun hd => absurd (hpower.symm.trans hd) (by decide)
  · have hsame : s.endListen = s := if_neg h
    rw [hsame]
    exact .refl s

/-- GATHER entry by a silent station (R60). -/
theorem LineRules.enterGather {s : State} (hsilent : Silent s) (hd : s.power.state ≠ .dormant)
    (stale : Bool) : LineRules (s.enterGather stale) := by
  have hline := s.enterGather_line stale
  have hpower := s.enterGather_power_state stale
  have hstate : (s.enterGather stale).part.state = .gather .window := by rw [State.enterGather_part]
  refine ⟨(hsilent.of_line hline (by simp)).driveLaw, .of_empty (by rw [hline]) ?_ ?_ ?_ ?_⟩
  · simp [hstate, Participation.isHalted]
  · simp [hstate]
  · simp [hpower, PowerControl.woken_ne_listen]
  · simp [hpower, PowerControl.woken_ne_dormant hd]

theorem State.enterGather_awake (s : State) (stale : Bool) :
    (s.enterGather stale).power.state ≠ .listen := by
  rw [State.enterGather_power_state]
  exact PowerControl.woken_ne_listen _

/-- MUTE entry (R74), with what the line still drives left out. -/
theorem ModeLaw.enterMute {s : State} (hd : s.power.state ≠ .dormant) : ModeLaw s.enterMute := by
  have hpower := s.enterMute_power_state
  have hstate : s.enterMute.part.state = .mute := by rw [State.enterMute_part]
  refine .of_empty (by rw [State.enterMute_line]) ?_ ?_ ?_ ?_
  · simp [hstate, Participation.isHalted]
  · simp [hstate]
  · simp [hpower, PowerControl.woken_ne_listen]
  · simp [hpower, PowerControl.woken_ne_dormant hd]

/-- HALTED entry (R77). -/
theorem LineRules.enterHalted {s : State} (hd : s.power.state ≠ .dormant) (cause : HaltCause) :
    LineRules (s.enterHalted cause) := by
  have hline := s.enterHalted_line cause
  have hpower := s.enterHalted_power_state cause
  have hstate : (s.enterHalted cause).part.state = .halted cause := by rw [State.enterHalted_part]
  refine ⟨(Silent.of_endFrame hline).driveLaw, .of_empty ?_ (fun _ => ?_) ?_ ?_ ?_⟩
  · rw [hline]; rfl
  · rw [hline]; rfl
  · simp [hstate]
  · simp [hpower, PowerControl.woken_ne_listen]
  · simp [hpower, PowerControl.woken_ne_dormant hd]

theorem State.enterHalted_awake (s : State) (cause : HaltCause) :
    (s.enterHalted cause).power.state ≠ .listen := by
  rw [State.enterHalted_power_state]
  exact PowerControl.woken_ne_listen _

/-! ### An own error (R100, R101) -/

theorem ModeLaw.ownError {s : State} (hs : ModeLaw s) : ModeLaw s.ownError := by
  obtain ⟨h, -, hstate⟩ | ⟨h, -⟩ := s.ownError_cases <;> rw [h]
  · refine .enterMute (hs.not_dormant fun hsleep => ?_)
    simp [hsleep, Participation.isGather] at hstate
  · exact hs.setLine rfl hs.off hs.start

/-- The line under an own error: the fault count rises, and MUTE entry empties the outbox. -/
theorem State.ownError_line (s : State) :
    s.ownError.line = { s.line with
      faultCount := min 31 (s.line.faultCount + 2), outbox := s.ownError.line.outbox } := by
  obtain ⟨h, -⟩ | ⟨h, -⟩ := s.ownError_cases <;> rw [h]
  rw [State.enterMute_line]

theorem Silent.ownError {s : State} (h : Silent s) : Silent s.ownError := by
  have hline := s.ownError_line
  exact ⟨by rw [hline]; exact h.role, by rw [hline]; exact h.drive,
    by rw [hline, State.ownError_own]; exact h.received⟩

theorem LineRules.ownError {s : State} (hsilent : Silent s) (hs : ModeLaw s) :
    LineRules s.ownError := ⟨hsilent.ownError.driveLaw, hs.ownError⟩

theorem State.ownError_awake {s : State} (hs : s.power.state ≠ .listen) :
    s.ownError.power.state ≠ .listen := by
  obtain ⟨h, -⟩ | ⟨h, -⟩ := s.ownError_cases <;> rw [h]
  · rw [State.enterMute_power_state]
    exact PowerControl.woken_ne_listen _
  · exact hs

end Sys2Proof.Machine
end

section
/-! The rules of the line (R57, R88, R112 to R114) under each command. -/

namespace Sys2Proof.Machine

/-! ### The equipment side -/

theorem LineMove.isenseResult (s : State) (cutSince : Bool) (code : Nat) :
    LineMove s (s.isenseResult cutSince code) := by
  unfold State.isenseResult State.trip
  split_ifs
  case neg =>
    refine LineMove.trans (SameLine.move ?_) ((LineMove.decideSince _ s).trans (.react _))
    exact ⟨rfl, rfl, rfl, rfl⟩
  all_goals exact SameLine.move ⟨rfl, rfl, rfl, rfl⟩

theorem LineMove.localSag (s : State) : LineMove s s.localSag := by
  have hplace : LineMove s (if s.sense.sagHold.isSome = true
      then (s.raise .sag).count .localSags 1
      else ((s.raise .sag).count .localSags 1).place .sag) := by
    split_ifs
    · exact (LineMove.raise s _).trans (.count _ _ _)
    · exact ((LineMove.raise s _).trans (.count _ _ _)).trans (.place _ _)
  refine hplace.trans (LineMove.trans (SameLine.move ?_) (.react _))
  exact ⟨rfl, rfl, rfl, rfl⟩

theorem LineMove.vsenseResult (s : State) (code : Nat) : LineMove s (s.vsenseResult code) := by
  unfold State.vsenseResult
  split_ifs
  · exact SameLine.move ⟨rfl, rfl, rfl, rfl⟩
  · exact SameLine.move ⟨rfl, rfl, rfl, rfl⟩
  · exact .localSag s

theorem LineMove.leaveListen (s : State) : LineMove s s.leaveListen := by
  unfold State.leaveListen
  split_ifs
  · refine (LineMove.endListen s).trans (LineMove.trans (SameLine.move ?_) (.place _ _))
    exact ⟨rfl, rfl, rfl, rfl⟩
  · exact .refl s

theorem execDemandSample_line {demand : DemandLevel} {ninhHigh : Bool} {s t : State}
    (h : execDemandSample demand ninhHigh s = .next t) : LineMove s t := by
  refine .of_guard h fun _ => LineMove.trans (SameLine.move ?_)
    (((LineMove.leaveListen _).trans (.decideSince _ s)).trans (.react _))
  exact ⟨rfl, rfl, rfl, rfl⟩

theorem execLockoutExpiry_line {s t : State} (h : execLockoutExpiry s = .next t) : LineMove s t := by
  refine .of_guard h fun _ => LineMove.trans (SameLine.move ?_)
    ((LineMove.decideSince _ s).trans (.react _))
  exact ⟨rfl, rfl, rfl, rfl⟩

theorem execConversionReady_line {code : ConverterCode} {s t : State}
    (h : execConversionReady code s = .next t) : LineMove s t := by
  have hend : LineMove s s.endConversion := SameLine.move ⟨rfl, rfl, rfl, rfl⟩
  unfold execConversionReady at h
  split at h
  · split at h <;> obtain rfl := Host.Outcome.next.inj h
    · exact hend.trans (.isenseResult _ _ _)
    · exact hend.trans (.vsenseResult _ _)
    all_goals exact .refl _
  · obtain rfl := Host.Outcome.next.inj h
    exact .refl _

theorem execOnTimeElapsed_line {s t : State} (h : execOnTimeElapsed s = .next t) : LineMove s t := by
  unfold execOnTimeElapsed at h
  split at h
  · obtain rfl := Host.Outcome.next.inj h
    exact .refl _
  · exact .of_guard h fun _ => SameLine.move ⟨rfl, rfl, rfl, rfl⟩

/-! ### Bus idle and the own frame (R58, R88, R89, R114) -/

/-- Bus idle makes the line READY, and takes a station in START to GATHER. -/
theorem execBusIdle_line {bits : List Bit} {s t : State} (h : execBusIdle bits s = .next t) :
    LineMove s t := by
  refine .of_guard h fun hg => ?_
  simp only [Bool.and_eq_true, beq_iff_eq, and_assoc] at hg
  obtain ⟨-, hseek, -⟩ := hg
  split_ifs with hstart
  · refine LineMove.trans ⟨fun hs => ?_, fun _ => State.enterGather_awake _ _⟩ (.react _)
    have hsilent := hs.drive.silent (by rw [hstart]; decide) (by rw [hstart]; decide)
    refine LineRules.enterGather ?_ ?_ false
    · exact ⟨hsilent.role, hsilent.drive, hsilent.received⟩
    · exact hs.mode.not_dormant (by rw [hstart]; decide)
  · refine ⟨fun hs => ⟨⟨fun hrole => ?_, hs.drive.ownFrame, hs.drive.slots, hs.drive.received⟩,
      hs.mode.setLine rfl (fun hoff => ?_) fun hs' => absurd hs' hstart⟩, id⟩
    · exact absurd (hseek.symm.trans (hs.drive.sender hrole).1) (by decide)
    · exact absurd (hseek.symm.trans (hs.mode.off hoff)) (by decide)

theorem State.ownPayload_kind (s : State) (k : FrameKind) : (s.ownPayload k).kind = k := by
  cases k
  case announce => simp only [State.ownPayload]; split_ifs <;> rfl
  all_goals rfl

/-- The request that a start opportunity sends is none of those it withdraws (R114). -/
theorem State.has_of_chosen {s : State} {k : FrameKind} (h : s.chosen = some k) :
    (s.withdrawn.foldl Outbox.remove s.line.outbox).has k = true := by
  have hvalid := List.find?_some h
  have hkept : k ∉ s.withdrawn := fun hmem => by
    have hpassed := List.mem_takeWhile_imp (List.mem_filter.mp hmem).1
    simp [hvalid] at hpassed
  simp only [Bool.and_eq_true] at hvalid
  simp [Outbox.has_removeAll, hvalid.1, hkept]

/-- A station that a frame is permitted to sends one whose request stands (R57, R89). -/
theorem LineRules.sendFrame {s : State} (hs : ModeLaw s) (hready : s.line.position = .ready)
    (hmay : s.mayTransmit = true) {k : FrameKind} (hhas : s.line.outbox.has k = true) :
    LineRules (s.sendFrame k) := by
  refine ⟨⟨fun _ => ⟨rfl, hmay, s.ownFrame k, rfl, ?_, fun hactive => ?_⟩, fun _ => rfl, ?_, ?_⟩,
    hs.setLine_of_onLine (LinePosition.onLine_of_eq hready (by decide) (by decide)) rfl⟩
  · show s.line.outbox.has (s.ownPayload k).kind = true
    rw [State.ownPayload_kind]
    exact hhas
  · have hrejoin := (State.mayTransmit_iff.mp hmay).2.resolve_left hactive
    obtain ⟨rfl, hannounce⟩ := (hs.rejoin hrejoin).of_has hhas
    exact ⟨_, _, if_pos hannounce⟩
  · simp
  · simp

theorem LineMove.afterWithdrawal (before s : State) :
    LineMove s (State.afterWithdrawal before s) := by
  unfold State.afterWithdrawal
  split_ifs
  · exact .place _ _
  · exact .refl _
  · exact .decideDemand _
  · exact .refl _

theorem execStartOpportunity_line {s t : State} (h : execStartOpportunity s = .next t) :
    LineMove s t := by
  refine .of_guard h fun hg => LineMove.trans ⟨fun hs => ?_, fun hs => ?_⟩ (.afterWithdrawal s _)
  · simp only [Bool.and_eq_true, beq_iff_eq] at hg
    obtain ⟨⟨-, hready⟩, hmay⟩ := hg
    have hmode := hs.mode.removeAll s.withdrawn
    split
    · rename_i k hk
      exact .sendFrame hmode hready hmay (State.has_of_chosen hk)
    · refine ⟨⟨fun hrole => ?_, hs.drive.ownFrame, hs.drive.slots, hs.drive.received⟩, hmode⟩
      exact absurd (hready.symm.trans (hs.drive.sender hrole).1) (by decide)
  · split <;> exact hs

/-! ### The sender (R91, R92, R95) -/

theorem State.sending_onLine {s : State} (h : s.sending = true) : s.line.position.OnLine := by
  simp only [State.sending, Bool.and_eq_true, beq_iff_eq] at h
  obtain ⟨⟨-, hframe⟩, -⟩ := h
  exact LinePosition.onLine_of_eq hframe (by decide) (by decide)

theorem execArbitrationLost_line {bits : List Bit} {s t : State}
    (h : execArbitrationLost bits s = .next t) : LineMove s t := by
  refine .of_guard h fun _ => ⟨fun hs => ⟨Silent.driveLaw ?_, ?_⟩, id⟩
  · exact ⟨nofun, rfl, hs.drive.received⟩
  · exact hs.mode.setLine rfl hs.mode.off hs.mode.start

/-- An own error once the frame has ended for the station (R92, R100). -/
theorem LineMove.endWithOwnError {s : State} (hpos : s.line.position.OnLine) :
    LineMove s (s.endFrame .seek).ownError.react :=
  LineMove.trans
    ⟨fun hs => .ownError (.of_endFrame (State.endFrame_line s .seek))
        (LineRules.endFrame hs.mode hpos .seek).mode,
      State.ownError_awake (s := s.endFrame .seek)⟩
    (.react _)

theorem execBitError_line {bits : List Bit} {s t : State} (h : execBitError bits s = .next t) :
    LineMove s t := by
  unfold execBitError at h
  split at h
  · have hpos := State.sending_onLine ‹_›
    split at h <;> obtain rfl := Host.Outcome.next.inj h
    · exact .endWithOwnError hpos
    · refine ⟨fun hs => ⟨Silent.driveLaw ?_, hs.mode.setLine_of_onLine hpos rfl⟩, id⟩
      constructor <;> simp [LineInterface.endFrame]
    all_goals exact .refl _
  · obtain rfl := Host.Outcome.next.inj h
    exact .refl _

theorem execBitErrorWatchEnd_line {bits : List Bit} {s t : State}
    (h : execBitErrorWatchEnd bits s = .next t) : LineMove s t := by
  unfold execBitErrorWatchEnd at h
  split at h
  · rename_i hg
    simp only [Bool.and_eq_true, beq_iff_eq] at hg
    obtain ⟨⟨-, hframe⟩, -⟩ := hg
    have hpos := LinePosition.onLine_of_eq hframe (by decide) (by decide)
    split at h <;> obtain rfl := Host.Outcome.next.inj h
    · exact (LineMove.endFrame hpos _).trans (.count _ _ _)
    · exact .endWithOwnError hpos
    · exact .refl _
  · obtain rfl := Host.Outcome.next.inj h
    exact .refl _

/-! ### The receiver (R85, R86, R93, R94, R96) -/

theorem State.receiving_iff {s : State} : s.receiving = true ↔
    s.clocked = true ∧ s.line.position = .frame ∧ s.line.role = .receiver ∧
      s.line.received = none := by
  simp [State.receiving, and_assoc]

theorem State.receiving_onLine {s : State} (h : s.receiving = true) :
    s.line.position.OnLine := by
  obtain ⟨-, hpos, -⟩ := State.receiving_iff.mp h
  exact LinePosition.onLine_of_eq hpos (by decide) (by decide)

/-- The jam is driven in ACTIVE alone, and nothing of what was driven before stays (R94). -/
theorem LineRules.jamOrSeek {s : State} (hs : ModeLaw s) (hpos : s.line.position.OnLine) :
    LineRules s.jamOrSeek := by
  unfold State.jamOrSeek
  split_ifs with hactive
  · have hjam : LineRules { s with line := { s.line.endFrame .jam with drive := .jam } } := by
      refine ⟨?_, hs.setLine_of_onLine hpos rfl⟩
      constructor <;> simp [LineInterface.endFrame, hactive]
    exact (LineMove.count _ .framesVoid 1).kept hjam
  · exact .endFrame hs hpos .seek

theorem State.jamOrSeek_power (s : State) : s.jamOrSeek.power = s.power := by
  unfold State.jamOrSeek
  split_ifs <;> rfl

theorem execFormatError_line {bits : List Bit} {s t : State} (h : execFormatError bits s = .next t) :
    LineMove s t := by
  refine .of_guard h fun hg => LineMove.trans ⟨fun hs => ?_, fun hs => ?_⟩ (.react _)
  · have hpos := State.receiving_onLine (Bool.and_eq_true_iff.mp hg).1
    refine .jamOrSeek hs.mode.ownError ?_
    rw [State.ownError_line]
    exact hpos
  · rw [State.jamOrSeek_power]
    exact State.ownError_awake hs

theorem execJamRecognised_line {bits : List Bit} {s t : State}
    (h : execJamRecognised bits s = .next t) : LineMove s t := by
  refine .of_guard h fun hg => ?_
  have hpos := State.receiving_onLine (Bool.and_eq_true_iff.mp hg).1
  split_ifs
  · exact ⟨fun hs => .jamOrSeek hs.mode hpos, fun hs => by rwa [State.jamOrSeek_power]⟩
  · exact (LineMove.endFrame hpos _).trans (.count _ _ _)

/-- SOF_READ, the end of the interframe and of the jam fall in READY, TAIL and JAM (R88, R90, R94). -/
theorem LineMove.of_position_guard {p : LinePosition} {s t u : State}
    (h : (if s.clocked && s.line.position == p then .next u else .next s :
      Host.Outcome State Fault Refusal) = .next t) (hoff : p ≠ .off) (hseek : p ≠ .seek)
    (hu : s.line.position.OnLine → LineMove s u) : LineMove s t := by
  refine .of_guard h fun hg => hu ?_
  simp only [Bool.and_eq_true, beq_iff_eq] at hg
  exact LinePosition.onLine_of_eq hg.2 hoff hseek

theorem execSofRead_line {s t : State} (h : execSofRead s = .next t) : LineMove s t :=
  .of_position_guard h (by decide) (by decide) .becomeReceiver

theorem execInterframeEnd_line {s t : State} (h : execInterframeEnd s = .next t) : LineMove s t :=
  .of_position_guard h (by decide) (by decide) fun hpos => .endFrame hpos _

theorem execJamEnd_line {s t : State} (h : execJamEnd s = .next t) : LineMove s t :=
  .of_position_guard h (by decide) (by decide) fun hpos => .endFrame hpos _

theorem execTailDominant_line {field : TailField} {s t : State}
    (h : execTailDominant field s = .next t) : LineMove s t := by
  unfold execTailDominant at h
  cases field
  case endField => exact .of_position_guard h (by decide) (by decide) fun hpos => .endFrame hpos _
  case interframe => exact .of_position_guard h (by decide) (by decide) .becomeReceiver

/-- A receiver in ACTIVE drives the slot of its verdict (R96). -/
theorem LineMove.driveSlot {s : State} (hrole : s.line.role = .receiver)
    (hactive : s.part.state = .active) (f : Frame) : LineMove s (s.driveSlot f) := by
  have hslot : ∀ v d, d ≠ .ownFrame →
      LineMove s { s with line := { s.line with verdict := v, drive := d } } := fun v d hd =>
    ⟨fun hs => ⟨⟨fun h => absurd (hrole.symm.trans h) (by decide), fun h => absurd h hd,
      fun _ => hactive, hs.drive.received⟩, hs.mode.setLine rfl hs.mode.off hs.mode.start⟩, id⟩
  unfold State.driveSlot
  split_ifs
  · exact hslot _ _ (by decide)
  · exact (hslot _ _ (by decide)).trans (.count _ _ _)

/-- A frame received whole halts the station where it carries the own address (R78), and is held where
it does not. -/
theorem execFrameReceived_line {bits : List Bit} {s t : State}
    (h : execFrameReceived bits s = .next t) : LineMove s t := by
  unfold execFrameReceived at h
  split at h
  · obtain ⟨-, hpos, hrole, -⟩ := State.receiving_iff.mp ‹_›
    split at h
    · rename_i r f _
      split at h <;> obtain rfl := Host.Outcome.next.inj h
      · refine LineMove.trans ⟨fun hs => ?_, fun _ => State.enterHalted_awake _ _⟩ (.react _)
        refine .enterHalted (hs.mode.not_dormant fun hsleep => ?_) _
        exact absurd (hpos.symm.trans (hs.mode.off (.inl hsleep))) (by decide)
      · rename_i hsender
        have hheld : LineMove s { s with line := { s.line with rx := r, received := some f } } := by
          refine ⟨fun hs => ⟨⟨fun h => absurd (hrole.symm.trans h) (by decide), hs.drive.ownFrame,
            hs.drive.slots, fun g hg => ?_⟩, hs.mode.setLine rfl hs.mode.off hs.mode.start⟩, id⟩
          exact Option.some.inj hg ▸ hsender
        split_ifs with hactive
        · refine hheld.trans (LineMove.driveSlot ?_ ?_ f)
          · exact hrole
          · exact hactive
        · exact hheld
    · obtain rfl := Host.Outcome.next.inj h
      exact .refl _
  · obtain rfl := Host.Outcome.next.inj h
    exact .refl _

/-! ### The outcome of a frame (R97 to R99) -/

theorem State.slotFrame_position {s : State} {f : Frame} (h : s.slotFrame = some f) :
    s.line.position = .frame := by
  unfold State.slotFrame at h
  split_ifs at h with hpos
  exact hpos

/-- The frame at its slots is the own one, or one received that carries another address. -/
theorem DriveLaw.sent_or_received {s : State} (hs : DriveLaw s) {f : Frame}
    (h : s.slotFrame = some f) :
    s.isSender = true ∧ s.mayTransmit = true ∧
        (s.part.state ≠ .active → f.payload.kind = .announce) ∨
      s.isSender = false ∧ f.sender ≠ s.own := by
  unfold State.slotFrame at h
  split_ifs at h
  split at h
  · rename_i hrole
    obtain ⟨-, hmay, g, htx, -, hrejoin⟩ := hs.sender hrole
    obtain rfl := Option.some.inj (htx.symm.trans h)
    refine .inl ⟨by simp [State.isSender, hrole], hmay, fun hactive => ?_⟩
    obtain ⟨floor, want, hf⟩ := hrejoin hactive
    rw [hf]
    rfl
  · rename_i hrole
    exact .inr ⟨by simp [State.isSender, hrole], hs.received f h⟩
  · contradiction

theorem State.counted_line (s : State) (f : Frame) (own : Bool) :
    (s.counted f own).line = (s.counted f own).line.endFrame .tail := by cases own <;> rfl

/-- A confirmed frame counted, and an own one's request removed (R97, R117). -/
theorem LineMove.counted {s : State} (hpos : s.line.position.OnLine)
    (f : Frame) (own : Bool) : LineMove s (s.counted f own) := by
  have hsame : SameLine { s with line := (s.counted f own).line } (s.counted f own) := by
    cases own <;> exact ⟨rfl, rfl, rfl, rfl⟩
  have hsilent := Silent.of_endFrame (t := { s with line := (s.counted f own).line })
    (s.counted_line f own)
  refine ⟨fun hs => hsame.rules ⟨hsilent.driveLaw, ?_⟩, fun hs => by rw [hsame.power]; exact hs⟩
  cases own
  case false => exact hs.mode.setLine_of_onLine hpos rfl
  case true => exact (hs.mode.removeAll [f.payload.kind]).setLine_of_onLine hpos rfl

end Sys2Proof.Machine
end

section
/-! The rules of the line (R57, R88, R112 to R114) under the outcome of a frame, the tick, rest and
wake, and under every command. -/

namespace Sys2Proof.Machine

/-! ### A frame confirmed (R97) -/

theorem State.slotFrame_onLine {s : State} {f : Frame} (h : s.slotFrame = some f) :
    s.line.position.OnLine :=
  LinePosition.onLine_of_eq (State.slotFrame_position h) (by decide) (by decide)

theorem LineMove.activeEffects (s : State) (f : Frame) (own eager : Bool) (n : Nat) :
    LineMove s (s.activeEffects f own eager n) := by
  unfold State.activeEffects
  dsimp only
  split
  case h_1 => split_ifs <;> exact SameLine.move ⟨rfl, rfl, rfl, rfl⟩
  case h_2 =>
    have hnoted : LineMove s { (s.count .evictEntries n).raise .evicted with
        part := { s.part with horizon := .expired, reannouncePending := true } } :=
      SameLine.move ⟨rfl, rfl, rfl, rfl⟩
    split_ifs
    · exact hnoted.trans (.place _ .plain)
    · exact .count s _ _
  case h_3 => exact .refl s
  case h_4 => split_ifs <;> exact SameLine.move (by constructor <;> simp)
  case h_5 => split_ifs <;> exact SameLine.move ⟨rfl, rfl, rfl, rfl⟩

theorem LineMove.applyActive (s : State) (f : Frame) (own : Bool) :
    LineMove s (s.applyActive f own) := by
  have hadopt : LineMove s (s.adopt (s.table.applyActive s.own f).table f) :=
    SameLine.move ⟨rfl, rfl, rfl, rfl⟩
  exact (hadopt.trans (.raiseIf _ _ _)).trans (.activeEffects _ _ _ _ _)

theorem LineMove.confirmActive {s : State} {f : Frame} (hslot : s.slotFrame = some f) (own : Bool) :
    LineMove s (s.confirmActive f own) := by
  have hcounted := LineMove.counted (State.slotFrame_onLine hslot) f own
  rw [State.confirmActive_eq]
  refine LineMove.trans ?_ ((LineMove.decideDemand _).trans (.react _))
  split_ifs
  · exact hcounted.trans (.applyActive _ _ _)
  · exact hcounted

theorem SameLine.gatherEffects (s : State) (f : Frame) (n : Nat) :
    SameLine s (s.gatherEffects f n) := by
  unfold State.gatherEffects
  dsimp only
  split
  case h_1 => split_ifs <;> constructor <;> simp
  case h_2 => split_ifs <;> constructor <;> simp
  all_goals exact ⟨rfl, rfl, rfl, rfl⟩

theorem SameLine.recogniseEviction (s : State) (f : Frame) : SameLine s (s.recogniseEviction f) := by
  unfold State.recogniseEviction
  split
  case h_1 => split_ifs <;> exact ⟨rfl, rfl, rfl, rfl⟩
  all_goals exact ⟨rfl, rfl, rfl, rfl⟩

/-- A silent station with nothing in its outbox becomes ACTIVE (R69). -/
theorem LineRules.rejoined {s : State} (hsilent : Silent s) (hempty : s.line.outbox = Outbox.empty)
    (hd : s.power.state ≠ .dormant) : LineRules s.rejoined := by
  refine ⟨Silent.driveLaw ⟨hsilent.role, hsilent.drive, hsilent.received⟩, .of_empty hempty ?_ ?_ ?_ ?_⟩
  · simp [Participation.isHalted]
  · simp
  · simp
  · exact fun h => absurd h hd

theorem Participation.isGather_ne {p : Participation} (h : p.isGather = true) :
    p ≠ .active ∧ p ≠ .sleep := by
  constructor <;> rintro rfl <;> contradiction

/-- A frame confirmed in GATHER: the own one is the rejoin ANNOUNCE, the only request there was. -/
theorem LineMove.confirmGather {s : State} (hs : LineRules s) {f : Frame}
    (hslot : s.slotFrame = some f) (hgather : s.part.state.isGather = true) :
    LineMove s (s.confirmGather f s.isSender) := by
  obtain ⟨hactive, hsleep⟩ := Participation.isGather_ne hgather
  have hcounted := LineMove.counted (State.slotFrame_onLine hslot) f s.isSender
  have hstate := (Quiet.counted s f s.isSender).state
  have hd : (s.counted f s.isSender).power.state ≠ .dormant :=
    (hcounted.kept hs).mode.not_dormant (by rwa [hstate])
  rw [State.confirmGather_eq]
  split_ifs
  · exact LineMove.trans ⟨fun _ => .enterHalted hd _, fun _ => State.enterHalted_awake _ _⟩ (.react _)
  · have hadopt : SameLine (s.counted f s.isSender)
        ((s.counted f s.isSender).adopt (s.table.applyGather s.own f).table f) := ⟨rfl, rfl, rfl, rfl⟩
    have happlied := hadopt.trans (.gatherEffects _ f (s.table.applyGather s.own f).evicted)
    refine LineMove.trans ?_ ((LineMove.decideDemand _).trans (.react _))
    obtain ⟨hown, hmay, hkind⟩ | ⟨hown, -⟩ := hs.drive.sent_or_received hslot
    · have hrejoin := (State.mayTransmit_iff.mp hmay).2.resolve_left hactive
      have hempty : (s.counted f true).line.outbox = Outbox.empty := by
        show s.line.outbox.remove f.payload.kind = Outbox.empty
        rw [hkind hactive]
        exact (hs.mode.rejoin hrejoin).remove_announce
      rw [hown] at happlied hd hcounted ⊢
      refine ⟨fun _ => LineRules.rejoined ?_ ?_ ?_, fun ha => ?_⟩
      · exact .of_endFrame (happlied.line.trans (s.counted_line f true))
      · rw [happlied.line]; exact hempty
      · rw [happlied.power]; exact hd
      · exact happlied.move.awake (hcounted.awake ha)
    · rw [hown] at happlied hcounted ⊢
      exact hcounted.trans happlied.move

/-- A station in MUTE that leaves it was silent (R75). -/
theorem LineMove.leaveMute (s : State) : LineMove s s.leaveMute := by
  unfold State.leaveMute
  split_ifs with h
  · refine ⟨fun hs => .enterGather ?_ ?_ _, fun _ => State.enterGather_awake _ _⟩
    · exact hs.drive.silent (by rw [h.1]; decide) (by rw [h.1]; decide)
    · exact hs.mode.not_dormant (by rw [h.1]; decide)
  · exact .refl s

theorem LineMove.confirmMute {s : State} {f : Frame} (hslot : s.slotFrame = some f) (own : Bool) :
    LineMove s (s.confirmMute f own) :=
  (((LineMove.counted (State.slotFrame_onLine hslot) f own).trans
    (SameLine.recogniseEviction _ f).move).trans (.leaveMute _)).trans (.react _)

theorem execFrameConfirmed_line {ack : Bit} {s t : State} (hs : LineRules s)
    (h : execFrameConfirmed ack s = .next t) : LineMove s t := by
  unfold execFrameConfirmed at h
  split at h
  · obtain rfl := Host.Outcome.next.inj h
    exact .refl _
  rename_i f hslot
  split_ifs at h
  · obtain rfl := Host.Outcome.next.inj h
    exact .refl _
  split at h <;> rename_i hstate <;> obtain rfl := Host.Outcome.next.inj h
  · exact .confirmActive hslot _
  · exact .confirmGather hs hslot (by rw [hstate]; rfl)
  · exact .confirmMute hslot _
  all_goals exact .refl _

/-! ### A frame void or jammed (R98) -/

theorem State.completeVoid_line (s : State) :
    s.completeVoid.line = s.completeVoid.line.endFrame .tail := rfl

theorem LineMove.completeVoid {s : State} (hpos : s.line.position.OnLine) :
    LineMove s s.completeVoid := by
  have hsame : SameLine { s with line := s.completeVoid.line } s.completeVoid :=
    ⟨rfl, rfl, rfl, rfl⟩
  have hsilent := Silent.of_endFrame (t := { s with line := s.completeVoid.line }) s.completeVoid_line
  exact ⟨fun hs => hsame.rules ⟨hsilent.driveLaw, hs.mode.setLine_of_onLine hpos rfl⟩, id⟩

/-- The own rejoin ANNOUNCE, the only request there was, is withdrawn with its frame (R69). -/
theorem LineRules.windowAgain {s : State} (hsilent : Silent s) (halone : s.line.outbox.RejoinAlone)
    (hrun : s.power.state = .run) : LineRules s.windowAgain := by
  refine ⟨(hsilent.of_line s.windowAgain_line s.windowAgain_loader).driveLaw,
    .of_empty halone.remove_announce ?_ ?_ ?_ ?_⟩
  · simp [Participation.isHalted]
  · simp
  · simp [hrun]
  · simp [hrun]

theorem execFrameVoid_line {ack : Bit} {s t : State} (hs : LineRules s)
    (h : execFrameVoid ack s = .next t) : LineMove s t := by
  unfold execFrameVoid at h
  split at h
  · obtain rfl := Host.Outcome.next.inj h
    exact .refl _
  rename_i f hslot
  have hvoid := LineMove.completeVoid (State.slotFrame_onLine hslot)
  have hsilent := Silent.of_endFrame s.completeVoid_line
  split_ifs at h
  · obtain rfl := Host.Outcome.next.inj h
    exact .refl _
  dsimp only at h
  split at h <;> rename_i hstate <;> obtain rfl := Host.Outcome.next.inj h
  · split_ifs
    · refine LineMove.trans ⟨fun hs => .enterGather hsilent ?_ _, fun _ => State.enterGather_awake _ _⟩
        (.react _)
      exact hs.mode.not_dormant (by rw [hstate]; decide)
    · exact hvoid
  · split_ifs with hown
    · obtain ⟨-, hmay, -⟩ | ⟨hother, -⟩ := hs.drive.sent_or_received hslot
      · obtain ⟨hrun, hrejoin⟩ := State.mayTransmit_iff.mp hmay
        have halone := hs.mode.rejoin (hrejoin.resolve_left (by simp [hstate]))
        refine ⟨fun _ => .windowAgain hsilent ?_ ?_, hvoid.awake⟩
        · simpa [State.completeVoid, LineInterface.endFrame] using halone
        · simpa [State.completeVoid] using hrun
      · simp [hother] at hown
    · exact hvoid
  · exact hvoid.trans ((LineMove.leaveMute _).trans (.react _))
  all_goals exact .refl _

theorem execFrameJammed_line {s t : State} (h : execFrameJammed s = .next t) : LineMove s t := by
  unfold execFrameJammed at h
  split at h
  · obtain rfl := Host.Outcome.next.inj h
    exact .refl _
  · rename_i f hslot
    split_ifs at h <;> obtain rfl := Host.Outcome.next.inj h
    · exact .refl _
    · exact (LineMove.endFrame (State.slotFrame_onLine hslot) _).trans (.count _ _ _)

/-! ### The tick and the close of the window (R68) -/

theorem LineMove.closeWindow {s : State} (hwindow : s.part.state = .gather .window) :
    LineMove s s.closeWindow := by
  unfold State.closeWindow
  refine LineMove.trans ?_ (.place _ .rejoin)
  refine ⟨fun hs => ?_, id⟩
  have hsilent := hs.drive.silent (by rw [hwindow]; decide) (by rw [hwindow]; decide)
  have hempty := hs.mode.outbox_empty (by simp [State.activeRun, hwindow]) (by rw [hwindow]; decide)
  refine ⟨Silent.driveLaw (.of_line (o := s.line.outbox) hsilent rfl rfl), .of_empty hempty ?_ ?_ ?_ ?_⟩
  · simp [Participation.isHalted]
  · simp
  · exact fun h => absurd (hwindow.symm.trans (hs.mode.listen h)) (by decide)
  · exact fun h => absurd (hwindow.symm.trans (hs.mode.dormant h)) (by decide)

theorem LineMove.tickHorizon (s : State) : LineMove s s.tickHorizon :=
  SameLine.move ⟨s.tickHorizon_line, (Quiet.tickHorizon s).state, by simp, by simp⟩

theorem LineMove.tickWindow (s : State) : LineMove s s.tickWindow := by
  unfold State.tickWindow
  split_ifs with hwindow
  · exact SameLine.move ⟨rfl, rfl, rfl, rfl⟩
  · exact .closeWindow hwindow
  · exact .refl s

theorem LineMove.tickAnnounce (s : State) : LineMove s s.tickAnnounce := by
  unfold State.tickAnnounce
  split_ifs
  · exact SameLine.move ⟨rfl, rfl, rfl, rfl⟩
  · exact .announceDue s
  · exact .refl s

theorem LineMove.tickIdle (s : State) : LineMove s s.tickIdle := by
  unfold State.tickIdle
  split_ifs <;> exact SameLine.move ⟨rfl, rfl, rfl, rfl⟩

theorem LineMove.tickDormant (s : State) : LineMove s s.tickDormant := by
  unfold State.tickDormant
  split_ifs <;> exact SameLine.move ⟨rfl, rfl, rfl, rfl⟩

theorem execTick_line {s t : State} (h : execTick s = .next t) : LineMove s t := by
  have hages : LineMove s s.tickAges := SameLine.move (by constructor <;> simp)
  refine .of_guard h fun _ => ?_
  exact (((((((hages.trans (.tickHorizon _)).trans (.tickWindow _)).trans (.tickAnnounce _)).trans
    (.tickIdle _)).trans (.tickDormant _)).trans (.lookForSilence _)).trans (.react _))

theorem execWindowClose_line {s t : State} (h : execWindowClose s = .next t) : LineMove s t := by
  refine .of_guard h fun hg => ?_
  simp only [Bool.and_eq_true, beq_iff_eq] at hg
  obtain ⟨⟨-, hwindow⟩, -⟩ := hg
  exact (LineMove.closeWindow hwindow).trans (.react _)

/-! ### Rest and wake (R149, R154 to R156) -/

/-- LISTEN entry, with the outbox empty, by an idle station (R148, R149). -/
theorem execListenEntry_line {s t : State} (hs : LineRules s) (h : execListenEntry s = .next t) :
    LineRules t ∧ (t.power.state = .listen → s.power.state = .listen ∨
      s.idle = true ∧ t.table = s.table) := by
  obtain ⟨hg, rfl⟩ | rfl := next_of_guard h
  swap
  · exact ⟨hs, .inl⟩
  simp only [Bool.and_eq_true, and_assoc] at hg
  obtain ⟨-, hidle, -, -, hnothing⟩ := hg
  have hempty : s.line.outbox = Outbox.empty := by simpa [Outbox.isEmpty] using hnothing
  have hactive : s.part.state = .active := by
    simp only [State.idle, Bool.and_eq_true, and_assoc] at hidle
    exact (State.activeRun_iff.mp hidle.1).1
  have hrole : s.line.role ≠ .sender := fun hrole => by
    obtain ⟨-, -, f, -, hhas, -⟩ := hs.drive.sender hrole
    rw [hempty] at hhas
    cases hk : f.payload.kind <;> rw [hk] at hhas <;> contradiction
  refine ⟨⟨⟨?_, ?_, ?_, ?_⟩, .of_empty ?_ ?_ ?_ ?_ ?_⟩, fun _ => .inr ⟨hidle, by simp⟩⟩
  · simpa using fun h => absurd h hrole
  · simpa using hs.drive.ownFrame
  · simpa using hs.drive.slots
  · simpa [State.own] using hs.drive.received
  · simpa using hempty
  · simpa using hs.mode.off
  · simpa using hs.mode.start
  · simp [hactive]
  · simp

theorem execDormantEntry_line {s t : State} (h : execDormantEntry s = .next t) : LineMove s t := by
  refine .of_guard h fun _ => ⟨fun _ => ⟨Silent.driveLaw ?_, .of_empty ?_ ?_ ?_ ?_ ?_⟩, ?_⟩
  · exact .of_endFrame (l := { s.line with outbox := Outbox.empty }) (p := .off) (by simp)
  all_goals simp [LineInterface.endFrame]

theorem execWake_line {demand : DemandLevel} {ninhHigh : Bool} {s t : State}
    (h : execWake demand ninhHigh s = .next t) : LineMove s t := by
  refine .of_guard h fun hg => ⟨fun hs => ?_, fun _ => nofun⟩
  simp only [Bool.and_eq_true, beq_iff_eq, and_assoc] at hg
  obtain ⟨-, hdormant, -⟩ := hg
  have hsleep := hs.mode.dormant hdormant
  have hsilent := hs.drive.silent (by rw [hsleep]; decide) (by rw [hsleep]; decide)
  have hempty := hs.mode.outbox_empty (by simp [State.activeRun, hsleep]) (by rw [hsleep]; decide)
  exact ⟨Silent.driveLaw ⟨hsilent.role, hsilent.drive, hsilent.received⟩,
    .of_empty hempty hs.mode.off hs.mode.start nofun nofun⟩

theorem execWakeClockReady_line {s t : State} (h : execWakeClockReady s = .next t) :
    LineMove s t := by
  refine .of_guard h fun hg => ?_
  simp only [Bool.and_eq_true, beq_iff_eq] at hg
  obtain ⟨⟨⟨-, hrun⟩, hsleep⟩, -⟩ := hg
  have hstarted : ∀ u : State, LineMove u u.startPeriods := fun u =>
    SameLine.move (by constructor <;> simp)
  refine LineMove.trans ?_ (.react _)
  refine LineMove.trans ?_ (hstarted _)
  refine ⟨fun hs => ?_, fun _ => State.enterGather_awake _ _⟩
  have hsilent := hs.drive.silent (by rw [hsleep]; decide) (by rw [hsleep]; decide)
  have hready : Silent { s with
      power := { s.power with clockReady := true }
      demand := { s.demand with sameCount := 0, highCount := 0 } } :=
    ⟨hsilent.role, hsilent.drive, hsilent.received⟩
  have hentered := hready.of_line (State.enterGather_line _ false) (State.enterGather_loader _ false)
  have hrules := LineRules.enterGather hready (by rw [hrun]; decide) false
  refine ⟨Silent.driveLaw ⟨hentered.role, hentered.drive, hentered.received⟩,
    hrules.mode.setLine rfl ?_ fun _ => .inr rfl⟩
  simp [State.enterGather_part, Participation.isHalted]

/-! ### Every command of the running station -/

/-- What every command but LISTEN entry and those of a reset and of the load does to the line. -/
theorem exec_line {c : Instr} {s t : State} (hs : LineRules s) (hc : c.isStartUp = false)
    (hl : c ≠ .listenEntry) (h : exec c s = .next t) : LineMove s t := by
  by_cases hm : c.isMonitor = true
  · obtain ⟨m, rfl⟩ := exec_of_isMonitor hm h
    exact SameLine.move ⟨rfl, rfl, rfl, rfl⟩
  cases c
  case busIdle => exact execBusIdle_line h
  case startOpportunity => exact execStartOpportunity_line h
  case arbitrationLost => exact execArbitrationLost_line h
  case bitError => exact execBitError_line h
  case bitErrorWatchEnd => exact execBitErrorWatchEnd_line h
  case formatError => exact execFormatError_line h
  case jamRecognised => exact execJamRecognised_line h
  case jamEnd => exact execJamEnd_line h
  case tailDominant => exact execTailDominant_line h
  case frameReceived => exact execFrameReceived_line h
  case frameConfirmed ack => exact execFrameConfirmed_line (ack := ack) hs h
  case frameVoid => exact execFrameVoid_line hs h
  case frameJammed => exact execFrameJammed_line h
  case tick => exact execTick_line h
  case silenceLimitReached => exact .of_guard h fun _ => .lookForSilence s
  case announceTimerExpiry => exact .of_guard h fun _ => .announceDue s
  case windowClose => exact execWindowClose_line h
  case horizonExpiry => exact .of_guard h fun _ => SameLine.move (by constructor <;> simp)
  case idleTimerExpiry => exact .of_guard h fun _ => SameLine.move ⟨rfl, rfl, rfl, rfl⟩
  case dormantTimerExpiry => exact .of_guard h fun _ => SameLine.move ⟨rfl, rfl, rfl, rfl⟩
  case dormantEntry => exact execDormantEntry_line h
  case wake => exact execWake_line h
  case wakeClockReady => exact execWakeClockReady_line h
  case demandSample => exact execDemandSample_line h
  case periodBoundary => exact .of_guard h fun _ => SameLine.move (by constructor <;> simp)
  case conversionReady => exact execConversionReady_line h
  case lockoutExpiry => exact execLockoutExpiry_line h
  case sagHoldExpiry => exact .of_guard h fun _ => SameLine.move (by constructor <;> simp)
  case sofRead => exact execSofRead_line h
  case interframeEnd => exact execInterframeEnd_line h
  case onTimeElapsed => exact execOnTimeElapsed_line h
  all_goals contradiction

end Sys2Proof.Machine
end

section
/-! What LISTEN promises of the table (R150): the own holding is zero and no debt record names the own
address, and no frame of another station changes that. -/

namespace Sys2Proof.Machine

/-- The station at an address holds nothing, and no PRESENT entry owes it anything. -/
structure Table.AtRest (t : Table) (a : Address) : Prop where
  share : (t.at a).share = 0
  depth : t.shedDepth a = 0

theorem State.table_atRest_iff (s : State) :
    s.table.AtRest s.own ↔ s.ownHolding = 0 ∧ s.ownShedDepth = 0 :=
  ⟨fun h => ⟨h.share, h.depth⟩, fun h => ⟨h.1, h.2⟩⟩

/-! ### What leaves a shed depth no greater (R12) -/

theorem Table.shedDepth_put_le {t : Table} {d a : Address} {e : Entry}
    (h : e.naming a ≤ (t.at d).naming a) : (t.put d e).shedDepth a ≤ t.shedDepth a := by
  have hput := t.shedDepth_put d a e
  omega

theorem Table.shedDepth_put_no_debts_le (t : Table) (d a : Address) {e : Entry} (h : e.debts = []) :
    (t.put d e).shedDepth a ≤ t.shedDepth a :=
  Table.shedDepth_put_le (by rw [Entry.naming_eq_zero h]; exact Nat.zero_le _)

theorem Table.shedDepth_forgive_le (t : Table) (x a : Address) :
    (t.forgive x).shedDepth a ≤ t.shedDepth a :=
  Table.shedDepth_mono fun b => by
    rw [Table.at_forgive]
    refine Entry.naming_le ?_ (.of_sublist List.filter_sublist) a
    rfl

theorem Table.shedDepth_settled_le (t : Table) (keepOut : Option Address) (d : Address) (k : Nat)
    (a : Address) : (t.settled keepOut d k).shedDepth a ≤ t.shedDepth a := by
  have hkept : ∀ b, ∃ h, (t.walkOf keepOut d k).table.at b = { t.at b with holding := h } := fun b => by
    obtain ⟨h, -, hat⟩ := walk_table_at keepOut t k (t.at d).debts.reverse b
    exact ⟨h, hat⟩
  have hwalk : (t.walkOf keepOut d k).table.shedDepth a ≤ t.shedDepth a :=
    Table.shedDepth_mono fun b => by
      obtain ⟨h, hat⟩ := hkept b
      rw [hat]
      rfl
  unfold Table.settled
  refine (Table.shedDepth_put_le (Entry.naming_le ?_ ?_ a)).trans hwalk
  · rfl
  obtain ⟨h, hat⟩ := hkept d
  have hleft := (lessened_walk keepOut t k (t.at d).debts.reverse).reverse
  rw [List.reverse_reverse] at hleft
  rw [hat]
  exact hleft

theorem Table.shedDepth_pushAll_le {a : Address} {records : List DebtRecord}
    (h : ∀ r ∈ records, r.creditor ≠ a) (t : Table) (owner : Address) :
    (t.pushAll owner records).shedDepth a ≤ t.shedDepth a := by
  induction records generalizing t with
  | nil => exact le_rfl
  | cons r rs ih =>
    obtain ⟨hr, hrs⟩ := List.forall_mem_cons.mp h
    exact (ih hrs _).trans (Table.shedDepth_push_le hr.symm t owner r.units)

/-! ### Settlement gives nothing to whom no record names (R34) -/

theorem walk_table_at_of_not_named {ds : List DebtRecord} {a : Address}
    (h : ∀ d ∈ ds, d.creditor ≠ a) (keepOut : Option Address) (t : Table) (n : Nat) :
    (walk keepOut t n ds).table.at a = t.at a := by
  induction ds generalizing t n with
  | nil => rfl
  | cons d ds ih =>
    obtain ⟨hd, hds⟩ := List.forall_mem_cons.mp h
    unfold walk
    split_ifs
    · rfl
    · dsimp only
      rw [ih hds]
      split_ifs
      · rfl
      · exact Table.at_put_of_ne hd.symm _ _

/-- A settlement by another station that does not owe to `a` leaves its entry as it was. -/
theorem Table.at_settled_of_not_named {t : Table} {d a : Address} (hd : a ≠ d)
    (h : ∀ r ∈ (t.at d).debts, r.creditor ≠ a) (keepOut : Option Address) (k : Nat) :
    (t.settled keepOut d k).at a = t.at a := by
  unfold Table.settled
  dsimp only
  rw [Table.at_put_of_ne hd]
  exact walk_table_at_of_not_named (by simpa using h) keepOut t k

/-! ### The promise under each application in ACTIVE (R31 to R42) -/

namespace Table.AtRest

variable {t : Table} {a : Address}

theorem allAbsent (a : Address) : Table.allAbsent.AtRest a where
  share := by simp
  depth := by simp [Table.shedDepth_eq_sum, Entry.naming, Entry.isPresent, Entry.cleared]

theorem of_le {u : Table} (h : t.AtRest a) (hshare : (u.at a).share = 0)
    (hdepth : u.shedDepth a ≤ t.shedDepth a) : u.AtRest a :=
  ⟨hshare, Nat.le_zero.mp (hdepth.trans_eq h.depth)⟩

/-- No record of a PRESENT entry names the station. -/
theorem not_named (h : t.AtRest a) {d : Address} (hp : (t.at d).presence = .present) :
    ∀ r ∈ (t.at d).debts, r.creditor ≠ a := by
  have hdepth := h.depth
  rw [Table.shedDepth_eq_sum, Finset.sum_eq_zero_iff] at hdepth
  have hnaming := hdepth d (Finset.mem_univ d)
  rw [Entry.naming, if_pos (Entry.isPresent_iff.mpr hp), List.countP_eq_zero] at hnaming
  simpa using hnaming

theorem heard (h : t.AtRest a) (d : Address) : (t.heard d).AtRest a := by
  refine h.of_le ?_ (Table.shedDepth_put_le le_rfl)
  rw [Table.at_heard]
  split_ifs with hd
  · exact hd ▸ h.share
  · exact h.share

theorem aged (h : t.AtRest a) : t.aged.AtRest a := by
  refine h.of_le ?_ (Table.shedDepth_mono fun b => ?_)
  · rw [Table.at_aged]
    split_ifs <;> exact h.share
  · rw [Table.at_aged]
    split_ifs <;> exact le_rfl

/-- An entry without holding and debts written at any address. -/
theorem put_fresh (h : t.AtRest a) (d : Address) {e : Entry} (hh : e.holding = 0)
    (hd : e.debts = []) : (t.put d e).AtRest a := by
  refine h.of_le ?_ (t.shedDepth_put_no_debts_le d a hd)
  rw [Table.at_put]
  split_ifs
  · simp [Entry.share, hh]
  · exact h.share

theorem forgive (h : t.AtRest a) (x : Address) : (t.forgive x).AtRest a :=
  h.of_le (by rw [Table.at_forgive]; exact h.share) (t.shedDepth_forgive_le x a)

/-- A settlement by another station. -/
theorem settled (h : t.AtRest a) {d : Address} (hd : a ≠ d) (hp : (t.at d).presence = .present)
    (keepOut : Option Address) (k : Nat) : (t.settled keepOut d k).AtRest a :=
  h.of_le (by rw [Table.at_settled_of_not_named hd (h.not_named hp)]; exact h.share)
    (t.shedDepth_settled_le keepOut d k a)

/-- An eviction of this station or of another. -/
theorem evict (h : t.AtRest a) (keepOut : Option Address) (x : Address) :
    (t.evict keepOut x).AtRest a := by
  unfold Table.evict
  split
  case h_1 hp =>
    by_cases hx : a = x
    · subst hx
      refine h.of_le (by simp) ?_
      exact (Table.shedDepth_put_no_debts_le _ _ _ rfl).trans
        ((Table.shedDepth_forgive_le _ _ _).trans (t.shedDepth_settled_le _ _ _ _))
    · exact ((h.settled hx hp keepOut _).forgive x).put_fresh x rfl rfl
  case h_2 => exact (h.forgive x).put_fresh x rfl rfl
  case h_3 => exact h

theorem evictAll (h : t.AtRest a) (keepOut : Option Address) (own : Address) (xs : List Address) :
    (t.evictAll keepOut own xs).table.AtRest a := by
  rw [Table.evictAll_table]
  induction xs generalizing t with
  | nil => exact h
  | cons x xs ih => exact ih (h.evict keepOut x)

theorem applyRelease (h : t.AtRest a) {d : Address} (hd : a ≠ d) (hp : (t.at d).presence = .present)
    (want k : Nat) : (t.applyRelease d want k).AtRest a := by
  have hsettled := h.settled hd hp none k
  refine hsettled.of_le ?_ (Table.shedDepth_put_le le_rfl)
  rw [Table.applyRelease, Table.at_put_of_ne hd]
  exact hsettled.share

/-- A station that holds nothing is no victim (R29). -/
theorem not_victim (h : t.AtRest a) (budget : Nat) (d : Address) (c : StationClass) (n : Nat) :
    ∀ v ∈ t.victimList budget d c n, v.victim ≠ a := by
  rintro v hv rfl
  have he := Table.eligible_of_mem_victimList hv
  have hspare := he.spare
  have hshare := h.share
  rw [Entry.share_of_present he.present] at hshare
  rw [Table.spare, hshare] at hspare
  omega

theorem applyClaim (h : t.AtRest a) {d : Address} (hd : a ≠ d) (hp : (t.at d).presence = .present)
    (want budget : Nat) (c : StationClass) (n : Nat) :
    (t.applyClaim d want n (t.victimList budget d c n)).AtRest a := by
  have hvictim := h.not_victim budget d c n
  refine h.of_le ?_ ?_
  · rw [Table.at_applyClaim_of_ne hd hp, Table.at_loseAll_of_not_mem (by simpa using hvictim)]
    exact h.share
  · rw [Table.applyClaim_eq_pushAll hp]
    refine (Table.shedDepth_pushAll_le (by simpa [claimRecords] using hvictim) _ _).trans ?_
    rw [Table.shedDepth_put_gaining]
    exact t.shedDepth_loseAll_le _ _

theorem applyPlain (h : t.AtRest a) {f : Frame} (hf : a ≠ f.sender) (floor want : Nat) :
    (t.applyPlain f floor want).AtRest a := by
  unfold Table.applyPlain
  split_ifs
  · exact h.of_le (by rw [Table.at_put_of_ne hf]; exact h.share) (Table.shedDepth_put_le le_rfl)
  · exact h.put_fresh _ rfl rfl

theorem applyRejoin (h : t.AtRest a) {f : Frame} (hf : a ≠ f.sender) (keepOut : Option Address)
    (floor want : Nat) : (t.applyRejoin keepOut f floor want).AtRest a := by
  unfold Table.applyRejoin
  dsimp only
  split_ifs with hp
  · exact ((h.settled hf (Entry.isPresent_iff.mp hp) keepOut _).forgive _).put_fresh _ rfl rfl
  · exact (h.forgive _).put_fresh _ rfl rfl

/-- A frame of another station that follows from the table. -/
theorem applyActive (h : t.AtRest a) {budget : Nat} {f : Frame} (hf : a ≠ f.sender)
    (hc : t.contentAgrees budget f = true) (own : Address) : (t.applyActive own f).table.AtRest a := by
  unfold Table.applyActive
  split
  case h_1 => exact h
  case h_2 xs _ => exact h.evictAll none own xs
  case h_3 want k list hp =>
    obtain ⟨hpresent, -⟩ := (Table.contentAgrees_release_iff hp).mp hc
    exact h.applyRelease hf hpresent want k
  case h_4 want n victims hp =>
    obtain ⟨hpresent, -, -, -, -, rfl⟩ := (Table.contentAgrees_claim_iff hp).mp hc
    exact h.applyClaim hf hpresent want budget _ n
  case h_5 => exact h.applyRejoin hf none _ _
  case h_6 => exact h.applyPlain hf _ _

end Table.AtRest

/-- What a station that is in LISTEN and stays there sees of the table's moves: ages, and frames of
others. -/
theorem TableMove.atRest {c : Instr} {s t : State} (m : TableMove c s t) (hs : LineRules s)
    (ht : LineRules t) (hslisten : s.power.state = .listen) (htlisten : t.power.state = .listen)
    (h : s.table.AtRest s.own) : t.table.AtRest s.own := by
  have hactive := hs.mode.listen hslisten
  have hstays := ht.mode.listen htlisten
  cases m with
  | same table => exact table ▸ h
  | aged table => exact table ▸ h.aged
  | @confirmedActive _ f _ slot agrees table =>
    have hother : f.sender ≠ s.own := by
      obtain ⟨-, hmay, -⟩ | ⟨-, hother⟩ := hs.drive.sent_or_received slot
      · exact absurd (hslisten.symm.trans (State.mayTransmit_iff.mp hmay).1) (by decide)
      · exact hother
    exact table ▸ (h.applyActive hother.symm (State.contentAgrees_of_agreesWith agrees) _).heard _
  | confirmedGather _ _ gather => exact absurd hactive (Participation.isGather_ne gather).1
  | entersGather _ after => exact absurd (hstays.symm.trans after) (by decide)
  | closesWindow _ after => exact absurd (hstays.symm.trans after) (by decide)
  | sleeps _ after => exact absurd (hstays.symm.trans after) (by decide)
  | resets _ table => exact table ▸ .allAbsent _

end Sys2Proof.Machine
end

section
/-! The line law under a step (R57, R113, R150). -/

namespace Sys2Proof.Machine

/-! ### Reset and the load -/

/-- An unloaded station has its line at its values after reset, in power RUN (R158). -/
theorem LoadLaw.lineRules_of_unloaded {s : State} (hl : LoadLaw s) (hn : s.config = none) :
    LineRules s := by
  have hu := hl.blocks hn
  have hoff := hu.position
  have hsilent : Silent s := by constructor <;> simp [hu.line, LineInterface.reset]
  refine ⟨hsilent.driveLaw, .of_empty (by rw [hu.line]; rfl) (fun _ => hoff) (fun _ => .inl hoff) ?_ ?_⟩
  · simp [hu.power]
  · simp [hu.power]

/-- Settlement makes the line position SEEK and leaves the station in START (R163). -/
theorem Unloaded.lineRules_settle {s : State} (hu : Unloaded s) (hp : s.part.state = .start)
    (c : Settings) : LineRules (s.settle c) ∧ (s.settle c).power.state = .run := by
  have hline : (s.settle c).line = { LineInterface.reset with position := .seek } := by
    simp [State.settle, hu.line, LineInterface.reset]
  have hstate : (s.settle c).part.state = .start := by simp [State.settle, hp]
  have hpower : (s.settle c).power.state = .run := by simp [State.settle, hu.power]
  have hsilent : Silent (s.settle c) := by constructor <;> simp [hline, LineInterface.reset]
  refine ⟨⟨hsilent.driveLaw, .of_empty ?_ ?_ ?_ ?_ ?_⟩, hpower⟩
  · rw [hline]; rfl
  · simp [hstate, Participation.isHalted]
  · simp [hline]
  · simp [hpower]
  · simp [hpower]

theorem State.failLoad_config (s : State) : s.failLoad.config = s.config := by
  simp [State.failLoad]

theorem State.failAttempt_config (s : State) : s.failAttempt.config = s.config := by
  unfold State.failAttempt
  split_ifs
  · rfl
  · exact s.failLoad_config

theorem State.beginAttempt_config (s : State) (sda : SdaReading) :
    (s.beginAttempt sda).config = s.config := by
  unfold State.beginAttempt
  dsimp only
  split_ifs
  · exact State.failAttempt_config _
  · rfl

/-- A command of a reset or of the load after which the configuration is settled leaves the line alone,
or is the settlement. -/
theorem exec_startUp_line {c : Instr} {s t : State} (hl : LoadLaw s) (hc : c.isStartUp = true)
    (h : exec c s = .next t) (ht : t.config ≠ none) :
    SameLine s t ∨ LineRules t ∧ t.power.state = .run := by
  have hsame : SameLine s s := ⟨rfl, rfl, rfl, rfl⟩
  cases c
  case reset cause =>
    unfold exec execReset at h
    dsimp only at h
    split at h <;> obtain rfl := Host.Outcome.next.inj h
    · exact .inl ⟨rfl, rfl, rfl, rfl⟩
    · exact absurd rfl ht
  case resetEnd =>
    obtain ⟨-, rfl⟩ | rfl := next_of_guard h
    · exact absurd rfl ht
    · exact .inl hsame
  case clockReady =>
    obtain ⟨hg, rfl⟩ | rfl := next_of_guard h
    · simp only [Bool.and_eq_true, beq_iff_eq] at hg
      obtain ⟨hu, -⟩ := hl.loading (.inl hg.2)
      rw [State.beginAttempt_config] at ht
      exact absurd hu.config ht
    · exact .inl hsame
  case attemptFailed =>
    obtain ⟨hg, rfl⟩ | rfl := next_of_guard h
    · simp only [State.attempting, Bool.and_eq_true, beq_iff_eq] at hg
      obtain ⟨⟨-, hreading⟩, -⟩ := hg
      obtain ⟨hu, -⟩ := hl.loading (.inr hreading)
      rw [State.failAttempt_config] at ht
      exact absurd hu.config ht
    · exact .inl hsame
  case retryWaitExpiry =>
    obtain ⟨hg, rfl⟩ | rfl := next_of_guard h
    · simp only [Bool.and_eq_true, beq_iff_eq] at hg
      obtain ⟨⟨-, hreading⟩, -⟩ := hg
      obtain ⟨hu, -⟩ := hl.loading (.inr hreading)
      rw [State.beginAttempt_config] at ht
      exact absurd hu.config ht
    · exact .inl hsame
  case attemptComplete bits =>
    obtain ⟨hg, rfl⟩ | rfl := next_of_guard h
    · simp only [State.attempting, Bool.and_eq_true, beq_iff_eq] at hg
      obtain ⟨⟨⟨-, hreading⟩, -⟩, -⟩ := hg
      obtain ⟨hu, hp⟩ := hl.loading (.inr hreading)
      have hread : Unloaded (s.readImage (bytesOf bits)) := hu.setLoader _
      split_ifs at ht ⊢
      · exact .inr (hread.lineRules_settle hp _)
      · rw [State.failLoad_config] at ht
        exact absurd hread.config ht
    · exact .inl hsame
  all_goals contradiction

/-! ### Every command -/

/-- A command after which the configuration is settled keeps the rules of the line, and leaves the
station in LISTEN only where it was there or was idle (R148, R149). -/
theorem LineRules.exec {c : Instr} {s t : State} (hs : LineRules s) (hl : LoadLaw s)
    (h : Machine.exec c s = .next t) (ht : t.config ≠ none) :
    LineRules t ∧ (t.power.state = .listen → t.loader = s.loader ∧
      (s.power.state = .listen ∨ s.idle = true ∧ t.table = s.table)) := by
  have hmoved : LineMove s t → t.loader = s.loader → LineRules t ∧ (t.power.state = .listen →
      t.loader = s.loader ∧ (s.power.state = .listen ∨ s.idle = true ∧ t.table = s.table)) :=
    fun hm hloader => ⟨hm.kept hs, fun hlisten =>
      ⟨hloader, .inl (by_contra fun hn => hm.awake hn hlisten)⟩⟩
  by_cases hc : c.isStartUp = true
  · obtain hsame | ⟨hrules, hrun⟩ := exec_startUp_line hl hc h ht
    · exact hmoved hsame.move hsame.loader
    · exact ⟨hrules, fun hlisten => absurd (hrun.symm.trans hlisten) (by decide)⟩
  rw [Bool.not_eq_true] at hc
  have hloader := (exec_running hc h).setup.loader
  by_cases hentry : c = .listenEntry
  · subst hentry
    obtain ⟨hrules, hlisten⟩ := execListenEntry_line hs h
    exact ⟨hrules, fun ht => ⟨hloader, hlisten ht⟩⟩
  · exact hmoved (exec_line hs hc hentry h) hloader

/-- The idle conditions ask for what LISTEN promises (R148, R150). -/
theorem State.atRest_of_idle {s : State} (h : s.idle = true) : s.table.AtRest s.own := by
  simp only [State.idle, Bool.and_eq_true, beq_iff_eq, and_assoc] at h
  obtain ⟨-, -, hholding, hdepth, -⟩ := h
  exact s.table_atRest_iff.mpr ⟨hholding, hdepth⟩

/-- Every command keeps the line law. -/
theorem LineLaw.exec {c : Instr} {s t : State} (hs : LineLaw s) (h : Machine.exec c s = .next t) :
    LineLaw t := by
  have hload := hs.load.exec h
  by_cases hn : t.config = none
  · refine (hload.lineRules_of_unloaded hn).lineLaw hload fun hlisten => ?_
    exact absurd ((hload.blocks hn).power.symm.trans hlisten) (by decide)
  obtain ⟨hrules, hentered⟩ := hs.rules.exec hs.load h hn
  refine hrules.lineLaw hload fun hlisten => t.table_atRest_iff.mp ?_
  obtain ⟨hloader, hbefore⟩ := hentered hlisten
  have hown : t.own = s.own := by rw [State.own, hloader]; rfl
  rw [hown]
  obtain hbefore | ⟨hidle, htable⟩ := hbefore
  · exact (exec_tableMove h).atRest hs.rules hrules hbefore hlisten
      (s.table_atRest_iff.mpr (hs.rest hbefore))
  · exact htable ▸ State.atRest_of_idle hidle

/-! ### What the law says of TXD and the outbox -/

/-- Only a station that may transmit drives frame bits (R57). -/
theorem LineLaw.mayTransmit_of_ownFrame {s : State} (hs : LineLaw s)
    (h : s.line.drive = .ownFrame) : s.mayTransmit = true := by
  obtain ⟨-, hmay, -⟩ := hs.sender (hs.ownFrame h)
  exact hmay

theorem LineLaw.drives_nothing {s : State} (hs : LineLaw s)
    (h : s.part.state = .start ∨ s.part.state = .mute ∨ s.part.state = .sleep ∨
      s.part.state.isHalted = true) : s.line.drive = .none := by
  refine (hs.rules.drive.silent ?_ ?_).drive
  all_goals intro hstate; simp [hstate, Participation.isHalted] at h

theorem LineLaw.listens {s : State} (hs : LineLaw s) (h : s.power.state = .listen) :
    s.line.drive ≠ .ownFrame ∧ s.ownHolding = 0 ∧ s.ownShedDepth = 0 ∧
      s.line.outbox = Outbox.empty := by
  obtain ⟨hholding, hdepth⟩ := hs.rest h
  refine ⟨fun hd => ?_, hholding, hdepth, ?_⟩
  · have hrun := (State.mayTransmit_iff.mp (hs.mayTransmit_of_ownFrame hd)).1
    exact absurd (h.symm.trans hrun) (by decide)
  · exact hs.rules.mode.outbox_empty (by simp [State.activeRun, h]) (by rw [hs.listen h]; decide)

/-- In GATHER nothing but the rejoin ANNOUNCE of phase REJOIN is driven (R57). -/
theorem LineLaw.gather_drives {s : State} (hs : LineLaw s) (h : s.part.state.isGather = true)
    (hd : s.line.drive ≠ .none) :
    s.line.drive = .ownFrame ∧ s.part.state = .gather .rejoin ∧
      ∃ f floor want, s.line.tx = some f ∧ f.payload = .announce true floor want 0 [] := by
  obtain ⟨hactive, -⟩ := Participation.isGather_ne h
  have hrejoin : s.part.state = .gather .rejoin :=
    by_contra fun hn => hd (hs.rules.drive.silent hactive hn).drive
  have hframe : s.line.drive = .ownFrame := by
    cases hdrive : s.line.drive with
    | none => exact absurd hdrive hd
    | ownFrame => rfl
    | ackSlot => exact absurd (hs.slots (.inl hdrive)) hactive
    | dissentSlot => exact absurd (hs.slots (.inr (.inl hdrive))) hactive
    | jam => exact absurd (hs.slots (.inr (.inr hdrive))) hactive
  obtain ⟨-, -, f, htx, -, hpayload⟩ := hs.sender (hs.ownFrame hframe)
  obtain ⟨floor, want, hf⟩ := hpayload hactive
  exact ⟨hframe, hrejoin, f, floor, want, htx, hf⟩

/-- The queue is no part of the law. -/
theorem LineLaw.setPending {s : State} (hs : LineLaw s) (rest : List Instr) :
    LineLaw { s with pending := rest } := by
  have hsame : SameLine s { s with pending := rest } := ⟨rfl, rfl, rfl, rfl⟩
  exact (hsame.rules hs.rules).lineLaw ⟨hs.load.unloaded, hs.load.halted, hs.load.settled⟩ hs.rest

theorem LineLaw.step {s t : State} (hs : LineLaw s) (h : Machine.step s = .next t) : LineLaw t := by
  unfold Machine.step at h
  split at h
  case h_1 =>
    obtain rfl := Host.Outcome.next.inj h
    exact hs
  case h_2 rest _ => exact (hs.setPending rest).exec h

/-- Settles O43: the command at the front of the queue keeps the line law, which says who drives in
each state; LISTEN is entered by an idle station alone, and no frame of another then gives it units or
names it in a record. -/
theorem lineOutboxAndListenLawsAreKept : Obligations.LineOutboxAndListenLawsAreKept := by
  intro s t hs h
  have ht := hs.step h
  exact ⟨ht, ht.drives_nothing, ht.listens, ht.gather_drives⟩

end Sys2Proof.Machine
end

section
/-! The limits of the output target (R80, R124, R141, R145), when each applies, and the active limit
reasons that they show (R126). -/

namespace Sys2Proof.Machine

/-! ### When each limit applies (R124) -/

/-- In MUTE and GATHER the horizon limit is the floor level, and 0 once the horizon is expired (R80). -/
theorem State.horizonLimit_of_applies {s : State}
    (h : s.part.state = .mute ∨ s.part.state.isGather = true) :
    s.horizonLimit = some (if s.part.horizon = .expired then 0 else s.cfg.floorLevel) := by
  unfold State.horizonLimit
  rw [if_pos (by simpa [or_comm] using h)]
  cases s.part.horizon <;> rfl

theorem State.horizonLimit_eq_none {s : State}
    (h : ¬ (s.part.state = .mute ∨ s.part.state.isGather = true)) : s.horizonLimit = none := by
  unfold State.horizonLimit
  rw [if_neg (by simpa [or_comm] using h)]

theorem State.horizonLimit_eq_some_iff {s : State} {n : Nat} :
    s.horizonLimit = some n ↔ (s.part.state = .mute ∨ s.part.state.isGather = true) ∧
      n = if s.part.horizon = .expired then 0 else s.cfg.floorLevel := by
  by_cases h : s.part.state = .mute ∨ s.part.state.isGather = true
  · rw [State.horizonLimit_of_applies h, Option.some_inj, eq_comm]
    exact (and_iff_right h).symm
  · rw [State.horizonLimit_eq_none h]
    exact ⟨nofun, fun hn => absurd hn.1 h⟩

theorem State.sagLimit_eq_some_iff {s : State} {n : Nat} :
    s.sagLimit = some n ↔ s.sense.sagHold ≠ none ∧ n = s.cfg.floorLevel := by
  unfold State.sagLimit
  split_ifs with h
  · rw [Option.some_inj, eq_comm]
    exact (and_iff_right (Option.isSome_iff_ne_none.mp h)).symm
  · exact ⟨nofun, fun hn => absurd (Option.isSome_iff_ne_none.mpr hn.1) h⟩

/-- The states to which the state limit applies (R124): all but power RUN, and START, SLEEP and
HALTED. -/
def State.stateLimited (s : State) : Prop :=
  s.power.state ≠ .run ∨ s.part.state = .start ∨ s.part.state = .sleep ∨
    s.part.state.isHalted = true

theorem State.stateLimit_of_stateLimited {s : State} (h : s.stateLimited) :
    s.stateLimit = some 0 :=
  if_pos (by simpa [State.stateLimited, or_assoc] using h)

theorem State.stateLimit_isSome_iff {s : State} : s.stateLimit.isSome = true ↔ s.stateLimited := by
  refine ⟨fun h => ?_, fun h => by rw [State.stateLimit_of_stateLimited h]; rfl⟩
  unfold State.stateLimit at h
  split_ifs at h with hc
  · simpa [State.stateLimited, or_assoc] using hc
  · contradiction

/-! ### The target is within each (R124) -/

theorem State.target_le_horizonLimit {s : State} {n : Nat} (h : s.horizonLimit = some n) :
    s.target ≤ n := by
  unfold State.target
  rw [h]
  exact (capped_le_left _ _).trans <| (capped_le_left _ _).trans <| (capped_le_left _ _).trans <|
    capped_le_of_some _ _

theorem State.target_eq_zero_of_stateLimited {s : State} (h : s.stateLimited) : s.target = 0 :=
  State.target_eq_zero_of_stateLimit (State.stateLimit_of_stateLimited h)

/-- A station whose own entry is not PRESENT is allowed no level (R14). -/
theorem State.allowedLevel_eq_zero {s : State} (h : s.ownEntry.presence ≠ .present) :
    s.allowedLevel = 0 := by
  simp [State.allowedLevel, State.ownHolding, Entry.share, Entry.isPresent, h]

/-! ### The active limit reasons (R126) -/

/-- Settles O56: each reason is read off its own limit; WANT gives way to INHIBIT and LOCKOUT. -/
theorem reasonsShowTheLimitsAtTheTarget : Obligations.ReasonsShowTheLimitsAtTheTarget := by
  intro s
  refine ⟨_, _, _, _, _, _, _, _, rfl, beq_iff_eq, ?_, Iff.rfl, ?_, ?_, ?_, ?_, decide_eq_true_iff⟩
  · simp only [Bool.and_eq_true, Bool.not_eq_true', beq_iff_eq, and_assoc]
  · rw [beq_iff_eq, State.horizonLimit_eq_some_iff]
  · rw [beq_iff_eq, State.sagLimit_eq_some_iff]
  · exact Option.isSome_iff_ne_none
  · exact State.stateLimit_isSome_iff

end Sys2Proof.Machine
end

section
/-! How the operations that the commands share leave the output level, its target and GATE (R125,
R127, R128, R133). -/

namespace Sys2Proof.Machine

/-! ### The output level within its target -/

/-- The output law but for the load. -/
structure OutputRules (s : State) : Prop where
  within : s.drive.output ≤ s.target
  gate : s.drive.gate = true → 0 < s.drive.output

theorem OutputLaw.rules {s : State} (h : OutputLaw s) : OutputRules s := ⟨h.within, h.gate⟩

/-- The output level stands, and GATE goes high for no level 0: what comes before a reaction that cuts
or starts a ramp. -/
structure HoldsOutput (s t : State) : Prop where
  output : t.drive.output = s.drive.output
  gate : t.drive.gate = true → s.drive.gate = true ∨ 0 < s.drive.output

/-- The output level stands, and its target with it. -/
structure SameOutput (s t : State) : Prop extends HoldsOutput s t where
  target : t.target = s.target

/-- The output level is kept within its target, and a rise is by one level (R125, R128). -/
structure OutputMove (s t : State) : Prop where
  kept : OutputRules s → OutputRules t
  rise : t.drive.output ≤ s.drive.output + 1

theorem HoldsOutput.refl (s : State) : HoldsOutput s s := ⟨rfl, .inl⟩

theorem HoldsOutput.trans {s t u : State} (h : HoldsOutput s t) (k : HoldsOutput t u) :
    HoldsOutput s u where
  output := k.output.trans h.output
  gate hu := (k.gate hu).elim h.gate fun hpos => .inr (h.output ▸ hpos)

theorem HoldsOutput.of_drive {s t : State} (h : t.drive = s.drive) : HoldsOutput s t :=
  ⟨by rw [h], by rw [h]; exact .inl⟩

theorem SameOutput.of_drive {s t : State} (hdrive : t.drive = s.drive) (htarget : t.target = s.target) :
    SameOutput s t := ⟨.of_drive hdrive, htarget⟩

theorem SameOutput.refl (s : State) : SameOutput s s := .of_drive rfl rfl

theorem SameOutput.trans {s t u : State} (h : SameOutput s t) (k : SameOutput t u) : SameOutput s u :=
  ⟨h.toHoldsOutput.trans k.toHoldsOutput, k.target.trans h.target⟩

theorem SameOutput.move {s t : State} (h : SameOutput s t) : OutputMove s t where
  kept hs :=
    ⟨by rw [h.output, h.target]; exact hs.within,
      fun ht => by rw [h.output]; exact (h.gate ht).elim hs.gate id⟩
  rise := h.output ▸ Nat.le_succ _

theorem OutputMove.refl (s : State) : OutputMove s s := (SameOutput.refl s).move

theorem OutputMove.of_drive {s t : State} (hdrive : t.drive = s.drive) (htarget : t.target = s.target) :
    OutputMove s t := (SameOutput.of_drive hdrive htarget).move

/-- A reaction to a change that left the output level to it: the level is cut to a lower target and
does not rise (R127). -/
theorem HoldsOutput.react {s u : State} (h : HoldsOutput s u) : OutputMove s u.react where
  kept hs := by
    refine ⟨u.react_output_le_target, fun hgate => ?_⟩
    rw [State.react_gate, Bool.and_eq_true, decide_eq_true_eq] at hgate
    obtain ⟨hhigh, hle⟩ := hgate
    rw [State.react_output, Nat.min_eq_left hle, h.output]
    exact (h.gate hhigh).elim hs.gate id
  rise := by
    rw [State.react_output, h.output]
    exact (Nat.min_le_left _ _).trans (Nat.le_succ _)

/-- An operation that leaves output level and target alone may come before any move. -/
theorem SameOutput.move_trans {s t u : State} (h : SameOutput s t) (k : OutputMove t u) :
    OutputMove s u :=
  ⟨k.kept ∘ h.move.kept, h.output ▸ k.rise⟩

/-- A drive at level 0 with GATE low is within any target. -/
theorem OutputMove.of_zero {s t : State} (houtput : t.drive.output = 0) (hgate : t.drive.gate = false) :
    OutputMove s t where
  kept _ := ⟨houtput ▸ Nat.zero_le _, by rw [hgate]; nofun⟩
  rise := houtput ▸ Nat.zero_le _

/-- A guarded command whose effect is such a move. -/
theorem OutputMove.of_guard {p : Prop} [Decidable p] {u s t : State}
    (h : (if p then .next u else .next s : Host.Outcome State Fault Refusal) = .next t)
    (hu : p → OutputMove s u) : OutputMove s t := by
  obtain ⟨hp, rfl⟩ | rfl := next_of_guard h
  · exact hu hp
  · exact .refl _

/-! ### Operations that leave the target alone -/

namespace SameOutput

/-- The target looks at neither the line nor the monitor port. -/
theorem line (s : State) (l : LineInterface) : SameOutput s { s with line := l } := .of_drive rfl rfl

theorem endFrame (s : State) (p : LinePosition) : SameOutput s (s.endFrame p) := .line s _

theorem monitor (s : State) (m : MonitorPort) : SameOutput s { s with monitor := m } :=
  .of_drive rfl rfl

theorem count (s : State) (c : CounterName) (n : Nat) : SameOutput s (s.count c n) := .monitor s _

theorem place (s : State) (r : Request) : SameOutput s (s.place r) := by
  obtain h | ⟨-, h⟩ := s.place_cases r <;> rw [h]
  · exact .refl s
  · exact .line s _

theorem placeIf (s : State) (c : Bool) (r : Request) :
    SameOutput s (if c then s.place r else s) := by
  split_ifs
  · exact .place s r
  · exact .refl s

theorem decideDemand (s : State) : SameOutput s s.decideDemand :=
  (SameOutput.placeIf s _ _).trans (.placeIf _ _ _)

theorem lookForSilence (s : State) : SameOutput s s.lookForSilence := .placeIf s _ _

/-- Of the Participation Unit the target looks at its state and the horizon alone. -/
theorem part (s : State) {p : ParticipationUnit} (hstate : p.state = s.part.state)
    (hhorizon : p.horizon = s.part.horizon) : SameOutput s { s with part := p } :=
  .of_drive rfl (by
    simp only [State.target, State.horizonLimit, State.stateLimit, hstate, hhorizon]; rfl)

theorem announceDue (s : State) : SameOutput s s.announceDue :=
  (SameOutput.part s (by rfl) (by rfl)).trans (.place _ .plain)

theorem afterWithdrawal (before s : State) : SameOutput s (State.afterWithdrawal before s) := by
  unfold State.afterWithdrawal
  split_ifs
  · exact .place _ _
  · exact .refl _
  · exact .decideDemand _
  · exact .refl _

theorem jamOrSeek (s : State) : SameOutput s s.jamOrSeek := by
  unfold State.jamOrSeek
  split_ifs
  · exact (SameOutput.count s _ _).trans (.line _ _)
  · exact .endFrame s _

theorem driveSlot (s : State) (f : Frame) : SameOutput s (s.driveSlot f) := by
  unfold State.driveSlot
  split_ifs
  · exact .line s _
  · exact (SameOutput.line s _).trans (.count _ _ _)

theorem completeVoid (s : State) : SameOutput s s.completeVoid :=
  ((SameOutput.endFrame s .tail).trans (.line _ _)).trans (.count _ _ _)

/-- Back in phase WINDOW a station in GATHER has the limits it had (R59, R80). -/
theorem windowAgain {s : State} (hs : s.part.state.isGather = true) : SameOutput s s.windowAgain := by
  obtain ⟨phase, hphase⟩ : ∃ phase, s.part.state = .gather phase := by
    cases h : s.part.state with
    | gather phase => exact ⟨phase, rfl⟩
    | _ => rw [h] at hs; contradiction
  refine .of_drive rfl ?_
  simp only [State.target, State.horizonLimit, State.stateLimit, State.windowAgain_part, hphase]
  rfl

theorem endConversion (s : State) : SameOutput s s.endConversion := ⟨⟨rfl, .inl⟩, rfl⟩

end SameOutput

/-! ### Moves between participation and power states -/

namespace HoldsOutput

/-- The first boundary of a period state that starts sets GATE from the output level (R131). -/
theorem startPeriods (s : State) : HoldsOutput s s.startPeriods where
  output := s.startPeriods_output
  gate h := .inr (by simpa [State.startPeriods] using h)

theorem endListen (s : State) : HoldsOutput s s.endListen := by
  unfold State.endListen
  split_ifs
  · exact (HoldsOutput.of_drive (by rfl)).trans (.startPeriods _)
  · exact .refl s

theorem enterGather (s : State) (stale : Bool) : HoldsOutput s (s.enterGather stale) :=
  (HoldsOutput.of_drive (by simp)).trans (.endListen _)

theorem enterMute (s : State) : HoldsOutput s s.enterMute :=
  (HoldsOutput.of_drive (by simp)).trans (.endListen _)

theorem enterHalted (s : State) (cause : HaltCause) : HoldsOutput s (s.enterHalted cause) :=
  (HoldsOutput.of_drive (by simp)).trans (.endListen _)

theorem ownError (s : State) : HoldsOutput s s.ownError := by
  obtain ⟨h, -⟩ | ⟨h, -⟩ := s.ownError_cases <;> rw [h]
  · exact (SameOutput.line s _).toHoldsOutput.trans (.enterMute _)
  · exact (SameOutput.line s _).toHoldsOutput

theorem leaveMute (s : State) : HoldsOutput s s.leaveMute := by
  unfold State.leaveMute
  split_ifs
  · exact .enterGather s _
  · exact .refl s

theorem leaveListen (s : State) : HoldsOutput s s.leaveListen := by
  unfold State.leaveListen
  split_ifs
  · exact ((HoldsOutput.endListen s).trans (.of_drive (by rfl))).trans
      (SameOutput.place _ _).toHoldsOutput
  · exact .refl s

/-- LISTEN or DORMANT entry: the level is cut to the target, and GATE is low as the period state stops
(R127, R130, R133). -/
theorem follow_stopPeriods {s u : State} (h : HoldsOutput s u) :
    OutputMove s u.follow.stopPeriods where
  kept _ := by
    have htarget : u.follow.stopPeriods.target = u.target := u.follow_target
    refine ⟨?_, nofun⟩
    rw [htarget, State.stopPeriods_drive, State.follow_output]
    exact Nat.min_le_right _ _
  rise := by
    rw [State.stopPeriods_drive, State.follow_output, h.output]
    exact (Nat.min_le_left _ _).trans (Nat.le_succ _)

end HoldsOutput

/-! ### The period boundary (R128, R131) -/

/-- The target looks at no field of the drive, and a boundary writes none of its limits. -/
theorem State.boundary_target (s : State) (sinceStart : Nat) :
    (s.boundary sinceStart).target = s.target :=
  State.target_congr (State.allowedLevel_congr (by simp) (by simp) (by simp))
    (State.wantLevel_congr (by simp) (by simp) (by simp) (by simp)) (by simp) (by simp) (by simp)
    (by simp) (by simp)

theorem OutputMove.boundary (s : State) (sinceStart : Nat) : OutputMove s (s.boundary sinceStart) where
  kept hs := by
    refine ⟨?_, fun hgate => ?_⟩
    · rw [State.boundary_target, State.boundary_output]
      exact State.rampAtBoundary_output_le_target hs.within sinceStart
    · simpa using hgate
  rise := by
    rw [State.boundary_output]
    exact s.rampAtBoundary_output_le sinceStart

end Sys2Proof.Machine
end

section
/-! The output law (R80, R125, R133) under each command and under a step. -/

namespace Sys2Proof.Machine

/-! ### The equipment side -/

theorem OutputMove.isenseResult (s : State) (cutSince : Bool) (code : Nat) :
    OutputMove s (s.isenseResult cutSince code) := by
  unfold State.isenseResult State.trip
  split_ifs
  · exact .of_drive rfl rfl
  · exact .of_drive rfl rfl
  · exact .of_drive rfl rfl
  · exact (HoldsOutput.of_drive (by simp)).react

theorem OutputMove.vsenseResult (s : State) (code : Nat) : OutputMove s (s.vsenseResult code) := by
  unfold State.vsenseResult State.localSag
  split_ifs
  · exact .of_drive rfl rfl
  · exact .of_drive rfl rfl
  · exact (HoldsOutput.of_drive (by rfl)).react
  · exact (HoldsOutput.of_drive (by simp)).react

theorem execConversionReady_output {code : ConverterCode} {s t : State}
    (h : execConversionReady code s = .next t) : OutputMove s t := by
  unfold execConversionReady at h
  split at h
  · split at h <;> obtain rfl := Host.Outcome.next.inj h
    · exact (SameOutput.endConversion s).move_trans (.isenseResult _ _ _)
    · exact (SameOutput.endConversion s).move_trans (.vsenseResult _ _)
    all_goals exact .refl _
  · obtain rfl := Host.Outcome.next.inj h
    exact .refl _

/-- The end of the on-time takes GATE low (R131). -/
theorem execOnTimeElapsed_output {s t : State} (h : execOnTimeElapsed s = .next t) :
    OutputMove s t := by
  unfold execOnTimeElapsed at h
  split at h
  · obtain rfl := Host.Outcome.next.inj h
    exact .refl _
  · exact .of_guard h fun _ => SameOutput.move ⟨⟨rfl, nofun⟩, rfl⟩

theorem execDemandSample_output {demand : DemandLevel} {ninhHigh : Bool} {s t : State}
    (h : execDemandSample demand ninhHigh s = .next t) : OutputMove s t := by
  refine .of_guard h fun _ => HoldsOutput.react (HoldsOutput.trans ?_ (.of_drive
    (State.decideSince_drive _ _)))
  exact (HoldsOutput.of_drive (by rfl)).trans (.leaveListen _)

/-! ### The traffic of the line -/

theorem execBusIdle_output {bits : List Bit} {s t : State} (h : execBusIdle bits s = .next t) :
    OutputMove s t := by
  refine .of_guard h fun _ => ?_
  split_ifs
  · exact ((SameOutput.line s _).toHoldsOutput.trans (.enterGather _ _)).react
  · exact (SameOutput.line s _).move

theorem execStartOpportunity_output {s t : State} (h : execStartOpportunity s = .next t) :
    OutputMove s t := by
  refine .of_guard h fun _ => (SameOutput.trans ?_ (.afterWithdrawal _ _)).move
  split <;> exact .line s _

theorem OutputMove.endWithOwnError (s : State) : OutputMove s (s.endFrame .seek).ownError.react :=
  ((SameOutput.endFrame s _).toHoldsOutput.trans (.ownError _)).react

theorem execBitError_output {bits : List Bit} {s t : State} (h : execBitError bits s = .next t) :
    OutputMove s t := by
  unfold execBitError at h
  split at h
  · split at h <;> obtain rfl := Host.Outcome.next.inj h
    · exact .endWithOwnError s
    · exact (SameOutput.line s _).move
    all_goals exact .refl _
  · obtain rfl := Host.Outcome.next.inj h
    exact .refl _

theorem execBitErrorWatchEnd_output {bits : List Bit} {s t : State}
    (h : execBitErrorWatchEnd bits s = .next t) : OutputMove s t := by
  unfold execBitErrorWatchEnd at h
  split at h
  · split at h <;> obtain rfl := Host.Outcome.next.inj h
    · exact ((SameOutput.endFrame s _).trans (.count _ _ _)).move
    · exact .endWithOwnError s
    · exact .refl _
  · obtain rfl := Host.Outcome.next.inj h
    exact .refl _

theorem execFormatError_output {bits : List Bit} {s t : State}
    (h : execFormatError bits s = .next t) : OutputMove s t :=
  .of_guard h fun _ =>
    ((HoldsOutput.ownError s).trans (SameOutput.jamOrSeek _).toHoldsOutput).react

theorem execJamRecognised_output {bits : List Bit} {s t : State}
    (h : execJamRecognised bits s = .next t) : OutputMove s t := by
  refine .of_guard h fun _ => SameOutput.move ?_
  split_ifs
  · exact .jamOrSeek s
  · exact (SameOutput.endFrame s _).trans (.count _ _ _)

theorem execTailDominant_output {field : TailField} {s t : State}
    (h : execTailDominant field s = .next t) : OutputMove s t := by
  unfold execTailDominant at h
  cases field <;> exact .of_guard h fun _ => (SameOutput.line s _).move

theorem execFrameReceived_output {bits : List Bit} {s t : State}
    (h : execFrameReceived bits s = .next t) : OutputMove s t := by
  unfold execFrameReceived at h
  split at h
  · split at h
    · split at h <;> obtain rfl := Host.Outcome.next.inj h
      · exact (HoldsOutput.enterHalted s _).react
      · split_ifs
        · exact ((SameOutput.line s _).trans (.driveSlot _ _)).move
        · exact (SameOutput.line s _).move
    · obtain rfl := Host.Outcome.next.inj h
      exact .refl _
  · obtain rfl := Host.Outcome.next.inj h
    exact .refl _

/-! ### The outcome of a frame (R97, R98) -/

theorem State.counted_drive (s : State) (f : Frame) (own : Bool) :
    (s.counted f own).drive = s.drive := by
  cases own <;> rfl

theorem State.activeEffects_drive (s : State) (f : Frame) (own eager : Bool) (n : Nat) :
    (s.activeEffects f own eager n).drive = s.drive := by
  unfold State.activeEffects State.ownEvicted
  dsimp only
  split
  case h_3 => rfl
  all_goals split_ifs <;> simp

theorem State.applyActive_drive (s : State) (f : Frame) (own : Bool) :
    (s.applyActive f own).drive = s.drive := by
  rw [State.applyActive, State.activeEffects_drive, State.raiseIf_drive, State.adopt_drive]

theorem State.gatherEffects_drive (s : State) (f : Frame) (n : Nat) :
    (s.gatherEffects f n).drive = s.drive := by
  unfold State.gatherEffects
  dsimp only
  split
  case h_1 => split_ifs <;> rfl
  case h_2 => split_ifs <;> rfl
  all_goals rfl

theorem State.rejoinedIf_drive (s : State) (own : Bool) : (s.rejoinedIf own).drive = s.drive := by
  cases own <;> rfl

theorem State.recogniseEviction_drive (s : State) (f : Frame) :
    (s.recogniseEviction f).drive = s.drive := by
  unfold State.recogniseEviction
  split
  case h_1 => split_ifs <;> rfl
  all_goals rfl

theorem OutputMove.confirmActive (s : State) (f : Frame) (own : Bool) :
    OutputMove s (s.confirmActive f own) := by
  rw [State.confirmActive_eq]
  refine HoldsOutput.react (.of_drive ?_)
  rw [State.decideDemand_drive]
  split_ifs
  · rw [State.applyActive_drive, State.counted_drive]
  · exact s.counted_drive f own

theorem OutputMove.confirmGather (s : State) (f : Frame) (own : Bool) :
    OutputMove s (s.confirmGather f own) := by
  rw [State.confirmGather_eq]
  split_ifs
  · exact ((HoldsOutput.of_drive (s.counted_drive f own)).trans (.enterHalted _ _)).react
  · refine HoldsOutput.react (.of_drive ?_)
    rw [State.decideDemand_drive, State.rejoinedIf_drive, State.gatherEffects_drive,
      State.adopt_drive, State.counted_drive]

theorem OutputMove.confirmMute (s : State) (f : Frame) (own : Bool) :
    OutputMove s (s.confirmMute f own) := by
  have hdrive : ((s.counted f own).recogniseEviction f).drive = s.drive := by
    rw [State.recogniseEviction_drive, State.counted_drive]
  exact ((HoldsOutput.of_drive hdrive).trans (.leaveMute _)).react

theorem execFrameConfirmed_output {ack : Bit} {s t : State} (h : execFrameConfirmed ack s = .next t) :
    OutputMove s t := by
  unfold execFrameConfirmed at h
  split at h
  · obtain rfl := Host.Outcome.next.inj h
    exact .refl _
  split_ifs at h
  · obtain rfl := Host.Outcome.next.inj h
    exact .refl _
  split at h <;> obtain rfl := Host.Outcome.next.inj h
  · exact .confirmActive s _ _
  · exact .confirmGather s _ _
  · exact .confirmMute s _ _
  all_goals exact .refl _

theorem execFrameVoid_output {ack : Bit} {s t : State} (h : execFrameVoid ack s = .next t) :
    OutputMove s t := by
  have hvoid := SameOutput.completeVoid s
  unfold execFrameVoid at h
  split at h
  · obtain rfl := Host.Outcome.next.inj h
    exact .refl _
  split_ifs at h
  · obtain rfl := Host.Outcome.next.inj h
    exact .refl _
  dsimp only at h
  split at h <;> rename_i hstate <;> obtain rfl := Host.Outcome.next.inj h
  · split_ifs
    · exact (hvoid.toHoldsOutput.trans (.enterGather _ _)).react
    · exact hvoid.move
  · split_ifs
    · refine (hvoid.trans (.windowAgain ?_)).move
      rw [(Quiet.completeVoid s).state, hstate]
      rfl
    · exact hvoid.move
  · exact (hvoid.toHoldsOutput.trans (.leaveMute _)).react
  all_goals exact .refl _

theorem execFrameJammed_output {s t : State} (h : execFrameJammed s = .next t) : OutputMove s t := by
  unfold execFrameJammed at h
  split at h
  · obtain rfl := Host.Outcome.next.inj h
    exact .refl _
  · split_ifs at h <;> obtain rfl := Host.Outcome.next.inj h
    · exact .refl _
    · exact ((SameOutput.endFrame s _).trans (.count _ _ _)).move

/-! ### Rest and wake (R149, R154 to R156) -/

/-- WAKE makes the power state RUN, which takes the state limit away: the level it finds is 0 (R124,
R155). -/
theorem execWake_output {demand : DemandLevel} {ninhHigh : Bool} {s t : State}
    (h : execWake demand ninhHigh s = .next t) : OutputMove s t := by
  refine .of_guard h fun hg => ⟨fun hs => ?_, Nat.le_succ _⟩
  simp only [Bool.and_eq_true, beq_iff_eq, and_assoc] at hg
  obtain ⟨-, hdormant, -⟩ := hg
  have htarget : s.target = 0 :=
    State.target_eq_zero_of_stateLimited (.inl (by rw [hdormant]; decide))
  have houtput : s.drive.output = 0 := Nat.le_zero.mp (htarget ▸ hs.within)
  exact ⟨houtput.trans_le (Nat.zero_le _), hs.gate⟩

theorem execWakeClockReady_output {s t : State} (h : execWakeClockReady s = .next t) :
    OutputMove s t :=
  .of_guard h fun _ => HoldsOutput.react <|
    (((HoldsOutput.of_drive (by rfl)).trans (.enterGather _ false)).trans
      (SameOutput.line _ _).toHoldsOutput).trans (.startPeriods _)

/-! ### Every command of the running station -/

theorem exec_running_output {c : Instr} {s t : State} (hc : c.isStartUp = false)
    (h : exec c s = .next t) : OutputMove s t := by
  by_cases hm : c.isMonitor = true
  · obtain ⟨m, rfl⟩ := exec_of_isMonitor hm h
    exact (SameOutput.monitor s m).move
  cases c
  case busIdle => exact execBusIdle_output h
  case startOpportunity => exact execStartOpportunity_output h
  case arbitrationLost => exact .of_guard h fun _ => (SameOutput.line s _).move
  case bitError => exact execBitError_output h
  case bitErrorWatchEnd => exact execBitErrorWatchEnd_output h
  case formatError => exact execFormatError_output h
  case jamRecognised => exact execJamRecognised_output h
  case jamEnd => exact .of_guard h fun _ => (SameOutput.endFrame s _).move
  case tailDominant => exact execTailDominant_output h
  case frameReceived => exact execFrameReceived_output h
  case frameConfirmed ack => exact execFrameConfirmed_output (ack := ack) h
  case frameVoid => exact execFrameVoid_output h
  case frameJammed => exact execFrameJammed_output h
  case tick => exact .of_guard h fun _ => (HoldsOutput.of_drive (by simp)).react
  case silenceLimitReached => exact .of_guard h fun _ => (SameOutput.lookForSilence s).move
  case announceTimerExpiry => exact .of_guard h fun _ => (SameOutput.announceDue s).move
  case windowClose =>
    exact .of_guard h fun _ => (HoldsOutput.of_drive (by simp [State.closeWindow])).react
  case horizonExpiry => exact .of_guard h fun _ => (HoldsOutput.of_drive (by rfl)).react
  case idleTimerExpiry => exact .of_guard h fun _ => .of_drive rfl rfl
  case listenEntry =>
    exact .of_guard h fun _ => (HoldsOutput.of_drive (by rfl)).follow_stopPeriods
  case dormantTimerExpiry => exact .of_guard h fun _ => .of_drive rfl rfl
  case dormantEntry =>
    exact .of_guard h fun _ => (HoldsOutput.of_drive (by rfl)).follow_stopPeriods
  case wake => exact execWake_output h
  case wakeClockReady => exact execWakeClockReady_output h
  case demandSample => exact execDemandSample_output h
  case periodBoundary sinceStart => exact .of_guard h fun _ => .boundary s sinceStart
  case conversionReady => exact execConversionReady_output h
  case lockoutExpiry => exact .of_guard h fun _ => (HoldsOutput.of_drive (by simp)).react
  case sagHoldExpiry => exact .of_guard h fun _ => (HoldsOutput.of_drive (by rfl)).react
  case sofRead => exact .of_guard h fun _ => (SameOutput.line s _).move
  case interframeEnd => exact .of_guard h fun _ => (SameOutput.endFrame s _).move
  case onTimeElapsed => exact execOnTimeElapsed_output h
  all_goals contradiction

/-! ### Reset and the load -/

/-- The level is 0 and GATE low after a reset and while the configuration is unloaded (R123, R158). -/
theorem OutputMove.of_drive_reset {s t : State} (h : t.drive = LoadDrive.reset) : OutputMove s t :=
  .of_zero (by rw [h]; rfl) (by rw [h]; rfl)

theorem OutputMove.failLoad {s u : State} (h : HoldsOutput s u) : OutputMove s u.failLoad :=
  ((h.trans (.of_drive (by rfl))).trans (.enterHalted _ _)).react

theorem OutputMove.settle {s u : State} (h : HoldsOutput s u) (c : Settings) :
    OutputMove s (u.settle c) :=
  ((h.trans (.of_drive (by rfl))).trans (.startPeriods _)).react

theorem OutputMove.failAttempt {s u : State} (h : SameOutput s u) : OutputMove s u.failAttempt := by
  unfold State.failAttempt
  split_ifs
  · exact (h.trans (.of_drive (by rfl) (by rfl))).move
  · exact .failLoad h.toHoldsOutput

theorem OutputMove.beginAttempt (s : State) (sda : SdaReading) : OutputMove s (s.beginAttempt sda) := by
  unfold State.beginAttempt
  dsimp only
  split_ifs
  · exact .failAttempt (.of_drive (by rfl) (by rfl))
  · exact .of_drive rfl rfl

/-- The commands of a reset and of the load. CLOCK_READY writes the straps, which say whose entry the
allowed level is read from: the configuration is unloaded then, and the level 0 (R158, R159). -/
theorem exec_startUp_output {c : Instr} {s t : State} (hl : LoadLaw s) (hc : c.isStartUp = true)
    (h : exec c s = .next t) : OutputMove s t := by
  have hload := hl.exec h
  have hunloaded : t.config = none → OutputMove s t := fun hn =>
    .of_drive_reset (hload.blocks hn).drive
  cases c
  case reset cause =>
    unfold exec execReset at h
    dsimp only at h
    split at h <;> obtain rfl := Host.Outcome.next.inj h
    · exact .of_drive rfl rfl
    · exact hunloaded rfl
  case resetEnd =>
    obtain ⟨-, rfl⟩ | rfl := next_of_guard h
    · exact hunloaded rfl
    · exact .refl _
  case clockReady =>
    obtain ⟨hg, rfl⟩ | rfl := next_of_guard h
    · simp only [Bool.and_eq_true, beq_iff_eq] at hg
      obtain ⟨-, hwaiting⟩ := hg
      obtain ⟨hu, -⟩ := hl.loading (.inl hwaiting)
      exact hunloaded ((State.beginAttempt_config _ _).trans hu.config)
    · exact .refl _
  case attemptFailed => exact .of_guard h fun _ => .failAttempt (.of_drive (by rfl) (by rfl))
  case retryWaitExpiry => exact .of_guard h fun _ => .beginAttempt s _
  case attemptComplete =>
    refine .of_guard h fun _ => ?_
    split_ifs
    · exact .settle (.of_drive (State.readImage_drive _ _)) _
    · exact .failLoad (.of_drive (State.readImage_drive _ _))
  all_goals contradiction

/-! ### Every command -/

theorem OutputLaw.exec_move {c : Instr} {s t : State} (hs : OutputLaw s) (h : exec c s = .next t) :
    OutputMove s t := by
  by_cases hc : c.isStartUp = true
  · exact exec_startUp_output hs.load hc h
  · exact exec_running_output (Bool.eq_false_iff.mpr hc) h

/-- The queue is no part of the law. -/
theorem OutputLaw.setPending {s : State} (hs : OutputLaw s) (rest : List Instr) :
    OutputLaw { s with pending := rest } :=
  ⟨⟨hs.load.unloaded, hs.load.halted, hs.load.settled⟩, hs.within, hs.gate⟩

/-- A step keeps the output law, and raises the output level by one at most. -/
theorem OutputLaw.step {s t : State} (hs : OutputLaw s) (h : Machine.step s = .next t) :
    OutputLaw t ∧ t.drive.output ≤ s.drive.output + 1 := by
  unfold Machine.step at h
  split at h
  case h_1 =>
    obtain rfl := Host.Outcome.next.inj h
    exact ⟨hs, Nat.le_succ _⟩
  case h_2 rest _ =>
    have hqueue := hs.setPending rest
    have hmove := hqueue.exec_move h
    obtain ⟨hwithin, hgate⟩ := hmove.kept hqueue.rules
    exact ⟨⟨hqueue.load.exec h, hwithin, hgate⟩, hmove.rise⟩

/-! ### What the law says of the limits -/

/-- In MUTE and GATHER the level is within the floor level, and 0 once the horizon is expired (R80). -/
theorem OutputLaw.horizon {s : State} (hs : OutputLaw s)
    (h : s.part.state = .mute ∨ s.part.state.isGather = true) :
    s.drive.output ≤ s.cfg.floorLevel ∧ (s.part.horizon = .expired → s.drive.output = 0) := by
  have hlimit := hs.within.trans (State.target_le_horizonLimit (State.horizonLimit_of_applies h))
  refine ⟨hlimit.trans ?_, fun hexpired => ?_⟩
  · split_ifs
    · exact Nat.zero_le _
    · exact le_rfl
  · rw [if_pos hexpired] at hlimit
    exact Nat.le_zero.mp hlimit

/-- Where the state limit applies GATE is low (R133). -/
theorem OutputLaw.gate_low {s : State} (hs : OutputLaw s) (h : s.stateLimited) :
    s.drive.gate = false := by
  have houtput : s.drive.output = 0 :=
    Nat.le_zero.mp (State.target_eq_zero_of_stateLimited h ▸ hs.within)
  exact Bool.eq_false_iff.mpr fun hgate => (hs.gate hgate).ne' houtput

/-- Settles O42: each command leaves the output level at or below its target, the lowest limit, whose
parts the clauses name. -/
theorem outputStaysWithinItsLimits : Obligations.OutputStaysWithinItsLimits := by
  intro s t hs h
  obtain ⟨ht, hrise⟩ := hs.step h
  have hallowed := ht.within.trans t.target_le_allowedLevel
  refine ⟨ht, hallowed, hrise, fun habsent => ?_, ht.horizon, ht.gate_low⟩
  exact Nat.le_zero.mp (State.allowedLevel_eq_zero habsent ▸ hallowed)

end Sys2Proof.Machine
end

section
/-! The ranges of ages, floors and wants in the grant table (R1, R9) under the table's own operations,
and the ranges of what a received frame carries (R84, R172). -/

namespace Sys2Proof.Machine

/-! ### One entry -/

/-- The age, the floor and the want of an entry fit their fields (R1, R9). -/
structure Entry.InRange (e : Entry) : Prop where
  age : e.age ≤ 65535
  floor : e.floor ≤ 255
  want : e.want ≤ 255

theorem Entry.inRange_cleared (p : Presence) : (Entry.cleared p).InRange :=
  ⟨Nat.zero_le _, Nat.zero_le _, Nat.zero_le _⟩

/-- The holding and the debts are no part of the ranges. -/
theorem Entry.InRange.setStock {e : Entry} (h : e.InRange) (holding : Nat) (debts : List DebtRecord) :
    Entry.InRange { e with holding := holding, debts := debts } := ⟨h.age, h.floor, h.want⟩

theorem Entry.InRange.setWant {e : Entry} (h : e.InRange) {want : Nat} (hw : want ≤ 255)
    (holding : Nat) (debts : List DebtRecord) :
    Entry.InRange { e with holding := holding, want := want, debts := debts } := ⟨h.age, h.floor, hw⟩

/-! ### A table, operation by operation -/

/-- Every entry of a table is in range. -/
def Table.InRange (t : Table) : Prop := ∀ a, (t.at a).InRange

namespace Table.InRange

variable {t : Table}

theorem allAbsent : Table.allAbsent.InRange := fun a => by
  rw [Table.at_allAbsent]; exact Entry.inRange_cleared _

theorem put (ht : t.InRange) {a : Address} {e : Entry} (he : e.InRange) : (t.put a e).InRange :=
  fun b => by
    rw [Table.at_put]
    split_ifs
    · exact he
    · exact ht b

theorem put_cleared (ht : t.InRange) (a : Address) (p : Presence) :
    (t.put a (Entry.cleared p)).InRange := ht.put (Entry.inRange_cleared p)

theorem push (ht : t.InRange) (owner creditor : Address) (units : Nat) :
    (t.push owner creditor units).InRange := fun a => by
  rw [Table.at_push]; exact (ht a).setStock _ _

theorem pushAll (ht : t.InRange) (owner : Address) (records : List DebtRecord) :
    (t.pushAll owner records).InRange := by
  induction records generalizing t with
  | nil => exact ht
  | cons r rs ih => exact ih (ht.push _ _ _)

theorem loseAll (ht : t.InRange) (victims : List Victim) :
    (victims.foldl Table.lose t).InRange := by
  induction victims generalizing t with
  | nil => exact ht
  | cons v vs ih =>
    refine ih ?_
    rw [Table.lose_eq]
    split_ifs
    · exact ht.put ((ht _).setStock _ _)
    · exact ht

theorem applyClaim (ht : t.InRange) {want : Nat} (hw : want ≤ 255) (d : Address) (n : Nat)
    (victims : List Victim) : (t.applyClaim d want n victims).InRange := by
  have hlost := ht.loseAll victims
  rw [Table.applyClaim_eq]
  split_ifs
  · exact (hlost.put ((hlost d).setWant hw _ _)).pushAll _ _
  · exact hlost

theorem settled (ht : t.InRange) (keepOut : Option Address) (d : Address) (k : Nat) :
    (t.settled keepOut d k).InRange := by
  have hwalk : (t.walkOf keepOut d k).table.InRange := fun a => by
    obtain ⟨h, -, hat⟩ := walk_table_at keepOut t k (t.at d).debts.reverse a
    rw [Table.walkOf, hat]
    exact (ht a).setStock _ _
  exact hwalk.put ((hwalk d).setStock _ _)

theorem applyRelease (ht : t.InRange) {want : Nat} (hw : want ≤ 255) (d : Address) (k : Nat) :
    (t.applyRelease d want k).InRange :=
  have hs := ht.settled none d k
  hs.put ((hs d).setWant hw _ _)

theorem gatherRelease (ht : t.InRange) {want : Nat} (hw : want ≤ 255) (own d : Address) (k : Nat)
    (list : List Settlement) : (t.gatherRelease own d want k list).InRange := by
  have hgifts : ∀ {u : Table}, u.InRange → (list.foldl (Table.gatherGift own) u).InRange := by
    induction list with
    | nil => exact id
    | cons x xs ih =>
      refine fun {u} hu => ih fun a => ?_
      rw [Table.at_gatherGift]
      split_ifs
      · exact (hu a).setStock _ _
      · exact hu a
  unfold Table.gatherRelease
  dsimp only
  split_ifs
  · exact hgifts (ht.put ((ht d).setWant hw _ _))
  · exact hgifts ht

theorem forgive (ht : t.InRange) (x : Address) : (t.forgive x).InRange := fun a => by
  rw [Table.at_forgive]; exact (ht a).setStock _ _

theorem evict (ht : t.InRange) (keepOut : Option Address) (x : Address) :
    (t.evict keepOut x).InRange := by
  unfold Table.evict
  split
  · exact ((ht.settled keepOut x _).forgive x).put_cleared x .absent
  · exact (ht.forgive x).put_cleared x .absent
  · exact ht

theorem evictAll (ht : t.InRange) (keepOut : Option Address) (own : Address) (xs : List Address) :
    (t.evictAll keepOut own xs).table.InRange := by
  rw [Table.evictAll_table]
  induction xs generalizing t with
  | nil => exact ht
  | cons x xs ih => exact ih (ht.evict keepOut x)

/-- An entry that an ANNOUNCE makes anew is in range where its floor and its want are. -/
theorem put_entry (ht : t.InRange) (f : Frame) {floor want : Nat} (hfloor : floor ≤ 255)
    (hwant : want ≤ 255) (holding : Nat) : (t.put f.sender (f.entry floor want holding)).InRange :=
  ht.put ⟨Nat.zero_le _, hfloor, hwant⟩

theorem applyPlain (ht : t.InRange) (f : Frame) {floor want : Nat} (hfloor : floor ≤ 255)
    (hwant : want ≤ 255) : (t.applyPlain f floor want).InRange := by
  unfold Table.applyPlain
  split_ifs
  · exact ht.put ((ht f.sender).setWant hwant _ _)
  · exact ht.put_entry f hfloor hwant 0

theorem applyRejoin (ht : t.InRange) (keepOut : Option Address) (f : Frame) {floor want : Nat}
    (hfloor : floor ≤ 255) (hwant : want ≤ 255) : (t.applyRejoin keepOut f floor want).InRange := by
  unfold Table.applyRejoin
  dsimp only
  split_ifs
  · exact ((ht.settled _ _ _).forgive _).put_entry f hfloor hwant 0
  · exact (ht.forgive _).put_entry f hfloor hwant 0

theorem gatherPlain (ht : t.InRange) (f : Frame) {floor want : Nat} (hfloor : floor ≤ 255)
    (hwant : want ≤ 255) (holding : Nat) (debts : List DebtRecord) :
    (t.gatherPlain f floor want holding debts).InRange := by
  have hpushed := (ht.put_entry f hfloor hwant holding).pushAll f.sender debts
  rw [Table.gatherPlain_eq]
  exact hpushed.put ((hpushed f.sender).setStock _ _)

theorem heard (ht : t.InRange) (a : Address) : (t.heard a).InRange :=
  ht.put ⟨Nat.zero_le _, (ht a).floor, (ht a).want⟩

theorem aged (ht : t.InRange) : t.aged.InRange := fun a => by
  rw [Table.at_aged]
  split_ifs
  · exact ⟨Nat.min_le_left _ _, (ht a).floor, (ht a).want⟩
  · exact ht a

theorem closed (ht : t.InRange) : t.closed.InRange := fun a => by
  rw [Table.at_closed]
  split_ifs
  · exact Entry.inRange_cleared _
  · exact (ht a).setStock _ _

theorem forGather (ht : t.InRange) (own : Address) (evicted : Bool) :
    (t.forGather own evicted).InRange := fun a => by
  rw [Table.at_forGather]
  split_ifs
  · exact Entry.inRange_cleared _
  · exact ht a
  · exact Entry.inRange_cleared _

/-- A frame whose floor and want fit their bytes leaves the table in range, in ACTIVE. -/
theorem applyActive (ht : t.InRange) {f : Frame} (hf : f.payload.WantFits) (own : Address) :
    (t.applyActive own f).table.InRange := by
  unfold Table.applyActive
  unfold Payload.WantFits at hf
  split <;> rename_i hp <;> rw [hp] at hf
  · exact ht
  · exact ht.evictAll none own _
  · exact ht.applyRelease hf _ _
  · exact ht.applyClaim hf _ _ _
  · exact ht.applyRejoin none f hf.1 hf.2
  · exact ht.applyPlain f hf.1 hf.2

/-- The same in GATHER. -/
theorem applyGather (ht : t.InRange) {f : Frame} (hf : f.payload.WantFits) (own : Address) :
    (t.applyGather own f).table.InRange := by
  unfold Table.applyGather
  unfold Payload.WantFits at hf
  split <;> rename_i hp <;> rw [hp] at hf
  · exact ht
  · exact ht.evictAll (some own) own _
  · exact ht.gatherRelease hf _ _ _ _
  · exact ht.applyClaim hf _ _ _
  · exact ht.applyRejoin (some own) f hf.1 hf.2
  · exact ht.gatherPlain f hf.1 hf.2 _ _

end Table.InRange

/-! ### What a received frame carries (R84, R172, R173) -/

/-- Floors and wants are read from bytes. -/
theorem wantFits_of_decodePayload {code : Nat} {bytes : List Byte} {p : Payload}
    (h : decodePayload code bytes = some p) : p.WantFits := by
  have hbyte : ∀ b : Byte, b.toNat ≤ 255 := fun b => Nat.le_of_lt_succ b.isLt
  unfold decodePayload at h
  split at h
  · split_ifs at h; obtain rfl := Option.some.inj h; trivial
  · split_ifs at h; obtain rfl := Option.some.inj h; trivial
  · split at h
    · split_ifs at h; obtain rfl := Option.some.inj h; exact hbyte _
    · contradiction
  · split at h
    · split_ifs at h; obtain rfl := Option.some.inj h; exact hbyte _
    · contradiction
  · split at h
    · split_ifs at h; obtain rfl := Option.some.inj h; exact ⟨hbyte _, hbyte _⟩
    · contradiction
  · contradiction

/-- The frame that frame bits spell has the payload that its bytes spell. -/
theorem decodePayload_of_parseFrame {bits : List Bit} {f : Frame} (h : parseFrame bits = some f) :
    decodePayload (natOf ((bits.drop 1).take 3))
      (bytesOf ((bits.drop 25).take (bits.length - 41))) = some f.payload := by
  unfold parseFrame at h
  split_ifs at h
  split at h
  · rename_i hp
    obtain rfl := Option.some.inj h
    exact hp
  · contradiction

/-- A receiver completes none but a frame that its frame bits spell. -/
theorem Rx.parseFrame_of_event {r : Rx} {b : Bit} {f : Frame} (h : r.event b = .complete f) :
    parseFrame (r.take b).bits = some f := by
  unfold Rx.event at h
  split_ifs at h
  split at h
  · rename_i hp
    rw [hp, RxEvent.complete.inj h]
  · contradiction

theorem wantFits_of_readBits {r : Rx} {bits : List Bit} {f : Frame}
    (h : (readBits r bits).2 = .complete f) : f.payload.WantFits := by
  induction bits generalizing r with
  | nil => contradiction
  | cons b bs ih =>
    rw [readBits] at h
    split at h
    · exact ih h
    · exact wantFits_of_decodePayload (decodePayload_of_parseFrame (Rx.parseFrame_of_event h))

end Sys2Proof.Machine
end

section
/-! The ranges of counts and held values (R100, R101, R111, R136 to R142, R170) under the operations that
the commands share. -/

namespace Sys2Proof.Machine

/-! ### The ranges, block by block -/

/-- The participation states, line positions and power states that go together (R88, R149, R154). -/
structure Posture (p : Participation) (l : LinePosition) (w : PowerState) : Prop where
  listen : w = .listen → p = .active
  start : p = .start → l = .off ∨ l = .seek
  asleep : p = .sleep → l = .off

/-- The line fault count is at most 31, and below 16 but in MUTE and HALTED (R100, R101). -/
structure FaultRange (p : Participation) (n : Nat) : Prop where
  le : n ≤ 31
  below : p = .mute ∨ p.isHalted = true ∨ n ≤ 15

theorem FaultRange.le_of_isGather {p : Participation} {n : Nat} (h : FaultRange p n)
    (hg : p.isGather = true) : n ≤ 15 := by
  cases p
  case gather => simpa [Participation.isHalted] using h.below
  all_goals simp [Participation.isGather] at hg

/-- Patience is at most 3, and 0 outside ACTIVE (R111). -/
structure PatienceRange (p : Participation) (n : Nat) : Prop where
  le : n ≤ 3
  active : n ≠ 0 → p = .active

/-- The frames that the line interface holds carry floors and wants of a byte (R84). -/
def LineInterface.FramesFit (l : LineInterface) : Prop :=
  ∀ f, l.tx = some f ∨ l.received = some f → f.payload.WantFits

/-- The counts of the sense unit (R136 to R142). -/
structure SenseUnit.InRange (u : SenseUnit) : Prop where
  blanking : u.blanking ≤ 2
  overdrawRun : u.overdrawRun ≤ 2
  sagRun : u.sagRun ≤ 1
  schedule : u.schedule ≤ 7

/-- The part of the law of counts that every operation keeps. -/
structure RangeRules (s : State) : Prop where
  posture : Posture s.part.state s.line.position s.power.state
  fault : FaultRange s.part.state s.line.faultCount
  patience : PatienceRange s.part.state s.demand.patience
  counters : s.monitor.counters.InRange
  table : s.table.InRange
  frames : s.line.FramesFit
  highCount : s.demand.highCount ≤ 3
  sense : s.sense.InRange

/-- Patience is 0 whenever the want is met (R111). A reaction sees to it. -/
def State.Keen (s : State) : Prop := s.demand.patience ≠ 0 → s.allowedLevel < s.wantLevel

theorem State.react_keen (s : State) : s.react.Keen := by
  intro h
  rw [State.react_demand] at h
  rw [State.react_allowedLevel, State.react_wantLevel]
  dsimp only at h
  split_ifs at h with hle
  · exact absurd rfl h
  · exact not_le.mp hle

/-! ### The end of a frame, field by field (R88) -/

@[simp] theorem LineInterface.endFrame_position (l : LineInterface) (p : LinePosition) :
    (l.endFrame p).position = p := rfl
@[simp] theorem LineInterface.endFrame_role (l : LineInterface) (p : LinePosition) :
    (l.endFrame p).role = .none := rfl
@[simp] theorem LineInterface.endFrame_drive (l : LineInterface) (p : LinePosition) :
    (l.endFrame p).drive = .none := rfl
@[simp] theorem LineInterface.endFrame_tx (l : LineInterface) (p : LinePosition) :
    (l.endFrame p).tx = none := rfl
@[simp] theorem LineInterface.endFrame_faultCount (l : LineInterface) (p : LinePosition) :
    (l.endFrame p).faultCount = l.faultCount := rfl
@[simp] theorem LineInterface.endFrame_outbox (l : LineInterface) (p : LinePosition) :
    (l.endFrame p).outbox = l.outbox := rfl

/-! ### What a command does to the ranges -/

/-- What every command does: the ranges are kept, and so is the rest of patience. -/
structure RangeMove (s t : State) : Prop where
  kept : RangeRules s → RangeRules t
  keen : s.Keen → t.Keen

/-- The values that the ranges speak of are as before. -/
structure SameCounts (s t : State) : Prop where
  state : t.part.state = s.part.state
  power : t.power.state = s.power.state
  position : t.line.position = s.line.position
  fault : t.line.faultCount = s.line.faultCount
  tx : t.line.tx = s.line.tx
  received : t.line.received = s.line.received
  patience : t.demand.patience = s.demand.patience
  highCount : t.demand.highCount = s.demand.highCount
  counters : t.monitor.counters = s.monitor.counters
  table : t.table = s.table
  sense : t.sense = s.sense

/-- What patience is measured against is as before (R111). -/
structure SameWant (s t : State) : Prop where
  demand : t.demand = s.demand
  lockout : t.sense.lockout = s.sense.lockout
  table : t.table = s.table
  loader : t.loader = s.loader
  config : t.config = s.config

theorem SameCounts.rules {s t : State} (h : SameCounts s t) (hs : RangeRules s) : RangeRules t where
  posture := by rw [h.state, h.position, h.power]; exact hs.posture
  fault := by rw [h.state, h.fault]; exact hs.fault
  patience := by rw [h.state, h.patience]; exact hs.patience
  counters := h.counters ▸ hs.counters
  table := h.table ▸ hs.table
  frames := by rw [LineInterface.FramesFit, h.tx, h.received]; exact hs.frames
  highCount := h.highCount ▸ hs.highCount
  sense := h.sense ▸ hs.sense

theorem SameCounts.refl (s : State) : SameCounts s s :=
  ⟨rfl, rfl, rfl, rfl, rfl, rfl, rfl, rfl, rfl, rfl, rfl⟩

theorem SameCounts.trans {s t u : State} (h : SameCounts s t) (k : SameCounts t u) :
    SameCounts s u :=
  ⟨k.state.trans h.state, k.power.trans h.power, k.position.trans h.position,
    k.fault.trans h.fault, k.tx.trans h.tx, k.received.trans h.received,
    k.patience.trans h.patience, k.highCount.trans h.highCount, k.counters.trans h.counters,
    k.table.trans h.table, k.sense.trans h.sense⟩

theorem SameWant.keen {s t : State} (h : SameWant s t) (hs : s.Keen) : t.Keen := by
  unfold State.Keen
  rw [State.allowedLevel_congr h.table h.loader h.config,
    State.wantLevel_congr h.config (by rw [h.demand]) (by rw [h.demand]) h.lockout, h.demand]
  exact hs

theorem RangeMove.refl (s : State) : RangeMove s s := ⟨id, id⟩

/-- A command that ends in a reaction. -/
theorem RangeMove.react {s u : State} (h : RangeRules s → RangeRules u) : RangeMove s u.react where
  kept hs := by
    have hu := h hs
    have hsense : u.react.sense.InRange := by
      have hfollow : u.react.sense = u.sense ∨
          u.react.sense = { u.sense with blanking := 2, converter := u.sense.converter.noteCut } := by
        simp only [State.react, State.restIdle_sense]
        unfold State.follow
        split_ifs <;> simp
      obtain hf | hf := hfollow <;> rw [hf]
      · exact hu.sense
      · exact ⟨le_rfl, hu.sense.overdrawRun, hu.sense.sagRun, hu.sense.schedule⟩
    refine ⟨by simpa using hu.posture, by simpa using hu.fault, ?_, by simpa using hu.counters,
      by simpa using hu.table, by simpa using hu.frames, by simpa [State.react_demand] using hu.highCount,
      hsense⟩
    rw [State.react_part, State.react_demand]
    dsimp only
    split_ifs
    · exact ⟨Nat.zero_le _, fun h0 => absurd rfl h0⟩
    · exact hu.patience
  keen _ := u.react_keen

/-- A guarded command. -/
theorem RangeMove.of_guard {p : Prop} [Decidable p] {u s t : State}
    (h : (if p then .next u else .next s : Host.Outcome State Fault Refusal) = .next t)
    (hu : p → RangeMove s u) : RangeMove s t := by
  obtain ⟨hp, rfl⟩ | rfl := next_of_guard h
  · exact hu hp
  · exact .refl _

/-- A guarded command that ends in a reaction. -/
theorem RangeMove.of_guard_react {p : Prop} [Decidable p] {u s t : State}
    (h : (if p then .next u.react else .next s : Host.Outcome State Fault Refusal) = .next t)
    (hu : p → RangeRules s → RangeRules u) : RangeMove s t := .of_guard h fun hp => .react (hu hp)

/-! ### Operations that touch none of the counts -/

namespace SameCounts

theorem place (s : State) (r : Request) : SameCounts s (s.place r) := by
  obtain h | ⟨-, h⟩ := s.place_cases r <;> rw [h]
  · exact .refl s
  · exact ⟨rfl, rfl, rfl, rfl, rfl, rfl, rfl, rfl, rfl, rfl, rfl⟩

theorem placeIf (s : State) (c : Bool) (r : Request) :
    SameCounts s (if c then s.place r else s) := by
  split_ifs
  · exact .place s r
  · exact .refl s

theorem decideDemand (s : State) : SameCounts s s.decideDemand :=
  (SameCounts.placeIf s _ _).trans (.placeIf _ _ _)

theorem decideSince (s before : State) : SameCounts s (s.decideSince before) := by
  unfold State.decideSince
  split_ifs
  · exact .refl s
  · exact .decideDemand s

theorem lookForSilence (s : State) : SameCounts s s.lookForSilence := .placeIf s _ _

theorem afterWithdrawal (before s : State) : SameCounts s (State.afterWithdrawal before s) := by
  unfold State.afterWithdrawal
  split_ifs
  · exact .place _ _
  · exact .refl _
  · exact .decideDemand _
  · exact .refl _

theorem raise (s : State) (f : EventFlag) : SameCounts s (s.raise f) :=
  ⟨rfl, rfl, rfl, rfl, rfl, rfl, rfl, rfl, rfl, rfl, rfl⟩

theorem raiseIf (s : State) (c : Bool) (f : EventFlag) : SameCounts s (s.raiseIf c f) := by
  unfold State.raiseIf
  split_ifs
  · exact .raise s f
  · exact .refl s

/-- The participation unit is written, but for its state. -/
theorem part (s : State) {p : ParticipationUnit} (h : p.state = s.part.state) :
    SameCounts s { s with part := p } := ⟨h, rfl, rfl, rfl, rfl, rfl, rfl, rfl, rfl, rfl, rfl⟩

theorem announceDue (s : State) : SameCounts s s.announceDue :=
  (SameCounts.part s (p := { s.part with announceTimer := s.cfg.announcePeriod }) rfl).trans
    (.place _ _)

theorem tickHorizon (s : State) : SameCounts s s.tickHorizon := by
  unfold State.tickHorizon
  split_ifs
  · exact .part s rfl
  · exact .refl s

theorem tickAnnounce (s : State) : SameCounts s s.tickAnnounce := by
  unfold State.tickAnnounce
  split_ifs
  · exact .part s rfl
  · exact .announceDue s
  · exact .refl s

theorem tickIdle (s : State) : SameCounts s s.tickIdle := by
  unfold State.tickIdle; split_ifs <;> exact ⟨rfl, rfl, rfl, rfl, rfl, rfl, rfl, rfl, rfl, rfl, rfl⟩

theorem tickDormant (s : State) : SameCounts s s.tickDormant := by
  unfold State.tickDormant; split_ifs <;> exact ⟨rfl, rfl, rfl, rfl, rfl, rfl, rfl, rfl, rfl, rfl, rfl⟩

/-- The own confirmed frame's request and the horizon are none of the counts (R79, R117). -/
theorem ownConfirmed (s : State) (f : Frame) : SameCounts s (s.ownConfirmed f) :=
  ⟨rfl, rfl, rfl, rfl, rfl, rfl, rfl, rfl, rfl, rfl, rfl⟩

theorem ownEvicted (s : State) : SameCounts s s.ownEvicted :=
  ((SameCounts.raise s .evicted).trans (.part _ (p := { s.part with
    horizon := .expired, reannouncePending := true }) rfl)).trans (.place _ .plain)

end SameCounts

/-! ### Counters (R170) -/

theorem risen_le (count n : Nat) : risen count n ≤ 65535 := Nat.min_le_left _ _

theorem Counters.inRange_zero : Counters.zero.InRange := by constructor <;> exact Nat.zero_le _

theorem Counters.InRange.rise {c : Counters} (h : c.InRange) (n : Nat) (name : CounterName) :
    (c.rise n name).InRange := by
  cases name
  case framesConfirmed => exact { h with framesConfirmed := risen_le _ _ }
  case framesVoid => exact { h with framesVoid := risen_le _ _ }
  case ownConfirmed => exact { h with ownConfirmed := risen_le _ _ }
  case dissentsDriven => exact { h with dissentsDriven := risen_le _ _ }
  case timesShed => exact { h with timesShed := risen_le _ _ }
  case overdrawTrips => exact { h with overdrawTrips := risen_le _ _ }
  case localSags => exact { h with localSags := risen_le _ _ }
  case evictEntries => exact { h with evictEntries := risen_le _ _ }

/-! ### The sense unit (R136) -/

/-- The schedule counts the boundaries from one VSENSE slot to the next (R136). -/
theorem State.scheduleAtBoundary_schedule (s : State) (firstTwenty : Bool) :
    (s.scheduleAtBoundary firstTwenty).sense.schedule =
      if s.sense.schedule = 7 then 0 else s.sense.schedule + 1 := by
  unfold State.scheduleAtBoundary
  by_cases h : s.sense.schedule = 7 <;> cases firstTwenty <;> simp [h]

theorem SenseUnit.InRange.scheduleAtBoundary {s : State} (h : s.sense.InRange)
    (firstTwenty : Bool) : (s.scheduleAtBoundary firstTwenty).sense.InRange where
  blanking := by unfold State.scheduleAtBoundary; dsimp only; split_ifs <;> exact h.blanking
  overdrawRun := by unfold State.scheduleAtBoundary; dsimp only; split_ifs <;> exact h.overdrawRun
  sagRun := by unfold State.scheduleAtBoundary; dsimp only; split_ifs <;> exact h.sagRun
  schedule := by
    have hle := h.schedule
    rw [State.scheduleAtBoundary_schedule]
    split_ifs <;> omega

theorem SenseUnit.InRange.startPeriods {s : State} (h : s.sense.InRange) :
    s.startPeriods.sense.InRange :=
  SenseUnit.InRange.scheduleAtBoundary (s := s.beginPeriod) h true

theorem SenseUnit.InRange.endListen {s : State} (h : s.sense.InRange) :
    s.endListen.sense.InRange := by
  unfold State.endListen
  split_ifs
  · exact SenseUnit.InRange.startPeriods (s := { s with
      power := { s.power with state := .run, dormantTimer := 0 } }) h
  · exact h

namespace RangeRules

variable {s : State}

theorem count (h : RangeRules s) (c : CounterName) (n : Nat) : RangeRules (s.count c n) :=
  ⟨h.posture, h.fault, h.patience, h.counters.rise n c, h.table, h.frames, h.highCount, h.sense⟩

/-! ### The line (R88) -/

/-- On the line but in SEEK the station is past START and awake. -/
theorem awake_of_onLine (h : RangeRules s) (hpos : s.line.position.OnLine) :
    s.part.state ≠ .start ∧ s.part.state ≠ .sleep := by
  refine ⟨fun hstart => ?_, fun hsleep => hpos.1 (h.posture.asleep hsleep)⟩
  obtain hoff | hseek := h.posture.start hstart
  · exact hpos.1 hoff
  · exact hpos.2 hseek

/-- A station past START and awake may take any line position. -/
theorem setLine (h : RangeRules s)
    (hawake : s.part.state ≠ .start ∧ s.part.state ≠ .sleep) {l : LineInterface}
    (hfault : l.faultCount = s.line.faultCount) (hframes : l.FramesFit) :
    RangeRules { s with line := l } :=
  ⟨⟨h.posture.listen, fun hs => absurd hs hawake.1, fun hs => absurd hs hawake.2⟩,
    ⟨hfault ▸ h.fault.le, hfault ▸ h.fault.below⟩, h.patience, h.counters, h.table, hframes,
    h.highCount, h.sense⟩

theorem framesFit_endFrame (l : LineInterface) (p : LinePosition) : (l.endFrame p).FramesFit :=
  fun _ hf => hf.elim nofun nofun

theorem endFrame (h : RangeRules s) (hpos : s.line.position.OnLine) (p : LinePosition) :
    RangeRules (s.endFrame p) :=
  h.setLine (h.awake_of_onLine hpos) rfl (framesFit_endFrame _ _)

theorem becomeReceiver (h : RangeRules s) (hpos : s.line.position.OnLine) :
    RangeRules s.becomeReceiver :=
  h.setLine (h.awake_of_onLine hpos) rfl (framesFit_endFrame s.line .frame)

theorem emptyOutbox (h : RangeRules s) : RangeRules s.emptyOutbox :=
  ⟨h.posture, h.fault, h.patience, h.counters, h.table, h.frames, h.highCount, h.sense⟩

theorem lowerFault (h : RangeRules s) : RangeRules s.lowerFault :=
  ⟨h.posture, ⟨(Nat.sub_le _ _).trans h.fault.le,
    h.fault.below.imp_right (Or.imp_right (Nat.sub_le _ _).trans)⟩, h.patience, h.counters, h.table,
    h.frames, h.highCount, h.sense⟩

/-! ### Moves between participation and power states -/

/-- GATHER entry, whatever the line position, with a fault count that GATHER allows (R60, R101). -/
theorem enterGather_setLine (h : RangeRules s) {l : LineInterface} (hfault : l.faultCount ≤ 15)
    (hframes : l.FramesFit) (stale : Bool) :
    RangeRules (State.enterGather { s with line := l } stale) where
  posture := by
    rw [State.enterGather_part, State.enterGather_power_state]
    exact ⟨fun hw => absurd hw s.power.woken_ne_listen, nofun, nofun⟩
  fault := by
    rw [State.enterGather_part, State.enterGather_line]
    exact ⟨hfault.trans (by decide), .inr (.inr hfault)⟩
  patience := by
    rw [State.enterGather_demand]
    exact ⟨Nat.zero_le _, fun h0 => absurd rfl h0⟩
  counters := by
    rw [State.enterGather_monitor, (SameCounts.raiseIf _ stale .gather).counters]
    exact h.counters
  table := by
    rw [State.enterGather_table]
    exact h.table.forGather _ _
  frames := by rw [State.enterGather_line]; exact hframes
  highCount := by rw [State.enterGather_demand]; exact h.highCount
  sense := by
    refine SenseUnit.InRange.endListen ?_
    simpa using h.sense

theorem enterGather (h : RangeRules s) (hfault : s.line.faultCount ≤ 15) (stale : Bool) :
    RangeRules (s.enterGather stale) := h.enterGather_setLine hfault h.frames stale

/-- MUTE entry with any fault count of the range (R74, R101). -/
theorem enterMute (h : RangeRules s) {n : Nat} (hn : n ≤ 31) :
    RangeRules (State.enterMute { s with line := { s.line with faultCount := n } }) where
  posture := by
    rw [State.enterMute_part, State.enterMute_power_state]
    exact ⟨fun hw => absurd hw s.power.woken_ne_listen, nofun, nofun⟩
  fault := by
    rw [State.enterMute_part, State.enterMute_line]
    exact ⟨hn, .inl rfl⟩
  patience := by
    rw [State.enterMute_demand]
    exact ⟨Nat.zero_le _, fun h0 => absurd rfl h0⟩
  counters := by rw [State.enterMute_monitor]; exact h.counters
  table := by rw [State.enterMute_table]; exact h.table
  frames := by rw [State.enterMute_line]; exact h.frames
  highCount := by rw [State.enterMute_demand]; exact h.highCount
  sense := SenseUnit.InRange.endListen h.sense

/-- HALTED entry (R77). -/
theorem enterHalted (h : RangeRules s) (cause : HaltCause) : RangeRules (s.enterHalted cause) where
  posture := by
    rw [State.enterHalted_part, State.enterHalted_power_state]
    exact ⟨fun hw => absurd hw s.power.woken_ne_listen, nofun, nofun⟩
  fault := by
    rw [State.enterHalted_part, State.enterHalted_line]
    exact ⟨h.fault.le, .inr (.inl rfl)⟩
  patience := by
    rw [State.enterHalted_demand]
    exact ⟨Nat.zero_le _, fun h0 => absurd rfl h0⟩
  counters := by rw [State.enterHalted_monitor]; exact h.counters
  table := by rw [State.enterHalted_table]; exact h.table
  frames := by rw [State.enterHalted_line]; exact framesFit_endFrame _ _
  highCount := by rw [State.enterHalted_demand]; exact h.highCount
  sense := SenseUnit.InRange.endListen h.sense

/-- The end of LISTEN leaves the station ACTIVE (R151, R152). -/
theorem endListen (h : RangeRules s) : RangeRules s.endListen where
  posture := by
    rw [State.endListen_power, State.endListen_part, State.endListen_line]
    exact ⟨fun hw => absurd hw s.power.woken_ne_listen, h.posture.start, h.posture.asleep⟩
  fault := by rw [State.endListen_part, State.endListen_line]; exact h.fault
  patience := by rw [State.endListen_part, State.endListen_demand]; exact h.patience
  counters := by rw [State.endListen_monitor]; exact h.counters
  table := by rw [State.endListen_table]; exact h.table
  frames := by rw [State.endListen_line]; exact h.frames
  highCount := by rw [State.endListen_demand]; exact h.highCount
  sense := h.sense.endListen

/-- An own error, which may be MUTE entry (R100, R101), in a station past START and awake. -/
theorem ownError (h : RangeRules s)
    (hawake : s.part.state ≠ .start ∧ s.part.state ≠ .sleep) : RangeRules s.ownError := by
  have hle : min 31 (s.line.faultCount + 2) ≤ 31 := Nat.min_le_left _ _
  obtain ⟨hm, -⟩ | ⟨hk, hstays⟩ := s.ownError_cases
  · rw [hm]
    exact h.enterMute hle
  · rw [hk]
    refine ⟨h.posture, ⟨hle, ?_⟩, h.patience, h.counters, h.table, h.frames, h.highCount, h.sense⟩
    dsimp only
    cases hp : s.part.state with
    | start => exact absurd hp hawake.1
    | sleep => exact absurd hp hawake.2
    | mute => exact .inl rfl
    | halted cause => exact .inr (.inl rfl)
    | active => rw [hp] at hstays; simp at hstays; omega
    | gather phase => rw [hp] at hstays; simp [Participation.isGather] at hstays; omega

/-- MUTE is left with a fault count of 4 at most (R75, R101). -/
theorem leaveMute (h : RangeRules s) : RangeRules s.leaveMute := by
  unfold State.leaveMute
  split_ifs with hm
  · exact h.enterGather (by omega) false
  · exact h

end RangeRules

end Sys2Proof.Machine
end

section
/-! What each command does to the ranges of counts and held values (R9, R84, R100, R101, R105, R111, R136
to R142, R170). -/

namespace Sys2Proof.Machine

/-! ### The equipment side -/

theorem SameWant.of_sense {s : State} {u : SenseUnit} (h : u.lockout = s.sense.lockout) :
    SameWant s { s with sense := u } := ⟨rfl, h, rfl, rfl, rfl⟩

theorem RangeRules.setSense {s : State} (h : RangeRules s) {u : SenseUnit} (hu : u.InRange) :
    RangeRules { s with sense := u } :=
  ⟨h.posture, h.fault, h.patience, h.counters, h.table, h.frames, h.highCount, hu⟩

theorem RangeMove.isenseResult (s : State) (cutSince : Bool) (code : Nat) :
    RangeMove s (s.isenseResult cutSince code) := by
  unfold State.isenseResult
  split_ifs with hblank _ hrun
  · exact ⟨fun hs => hs.setSense ⟨(Nat.sub_le _ _).trans hs.sense.blanking, Nat.zero_le _,
      hs.sense.sagRun, hs.sense.schedule⟩, (SameWant.of_sense rfl).keen⟩
  · exact ⟨fun hs => hs.setSense ⟨hs.sense.blanking, Nat.zero_le _, hs.sense.sagRun,
      hs.sense.schedule⟩, (SameWant.of_sense rfl).keen⟩
  · exact ⟨fun hs => hs.setSense ⟨hs.sense.blanking, Nat.le_of_lt_succ hrun, hs.sense.sagRun,
      hs.sense.schedule⟩, (SameWant.of_sense rfl).keen⟩
  · refine .react fun hs => (SameCounts.decideSince _ _).rules (RangeRules.count
      ((SameCounts.raise _ _).rules ?_) _ _)
    exact hs.setSense ⟨hs.sense.blanking, Nat.zero_le _, hs.sense.sagRun, hs.sense.schedule⟩

theorem RangeMove.localSag (s : State) : RangeMove s s.localSag := by
  refine .react fun hs => ?_
  have hcounted : RangeRules ((s.raise .sag).count .localSags 1) :=
    ((SameCounts.raise s .sag).rules hs).count _ _
  have hplaced : RangeRules (if s.sense.sagHold.isSome then (s.raise .sag).count .localSags 1
      else ((s.raise .sag).count .localSags 1).place .sag) := by
    split_ifs
    · exact hcounted
    · exact (SameCounts.place _ _).rules hcounted
  exact hplaced.setSense ⟨hplaced.sense.blanking, hplaced.sense.overdrawRun, Nat.zero_le _,
    hplaced.sense.schedule⟩

theorem RangeMove.vsenseResult (s : State) (code : Nat) : RangeMove s (s.vsenseResult code) := by
  unfold State.vsenseResult
  split_ifs with _ hrun
  · exact ⟨fun hs => hs.setSense ⟨hs.sense.blanking, hs.sense.overdrawRun, Nat.zero_le _,
      hs.sense.schedule⟩, (SameWant.of_sense rfl).keen⟩
  · exact ⟨fun hs => hs.setSense ⟨hs.sense.blanking, hs.sense.overdrawRun, Nat.le_of_lt_succ hrun,
      hs.sense.schedule⟩, (SameWant.of_sense rfl).keen⟩
  · exact .localSag s

theorem RangeMove.trans {s t u : State} (h : RangeMove s t) (k : RangeMove t u) : RangeMove s u :=
  ⟨k.kept ∘ h.kept, k.keen ∘ h.keen⟩

theorem execConversionReady_range {code : ConverterCode} {s t : State}
    (h : execConversionReady code s = .next t) : RangeMove s t := by
  have hend : RangeMove s s.endConversion :=
    ⟨fun hs => ⟨hs.posture, hs.fault, hs.patience, hs.counters, hs.table, hs.frames, hs.highCount,
      ⟨hs.sense.blanking, hs.sense.overdrawRun, hs.sense.sagRun, hs.sense.schedule⟩⟩,
      SameWant.keen ⟨rfl, rfl, rfl, rfl, rfl⟩⟩
  unfold execConversionReady at h
  split at h
  · split at h <;> obtain rfl := Host.Outcome.next.inj h
    · exact hend.trans (.isenseResult _ _ _)
    · exact hend.trans (.vsenseResult _ _)
    all_goals exact .refl _
  · obtain rfl := Host.Outcome.next.inj h
    exact .refl _

/-- The Load Drive is none of the counts. -/
theorem RangeMove.drive (s : State) (d : LoadDrive) : RangeMove s { s with drive := d } :=
  ⟨SameCounts.rules ⟨rfl, rfl, rfl, rfl, rfl, rfl, rfl, rfl, rfl, rfl, rfl⟩,
    SameWant.keen ⟨rfl, rfl, rfl, rfl, rfl⟩⟩

theorem execOnTimeElapsed_range {s t : State} (h : execOnTimeElapsed s = .next t) :
    RangeMove s t := by
  unfold execOnTimeElapsed at h
  split at h
  · obtain rfl := Host.Outcome.next.inj h
    exact .refl _
  · exact .of_guard h fun _ => .drive s _

theorem RangeMove.rampAtBoundary (s : State) (sinceStart : Nat) :
    RangeMove s (s.rampAtBoundary sinceStart) := by
  obtain ⟨-, h⟩ | ⟨_, -, ⟨-, -, h⟩ | ⟨-, h⟩⟩ := s.rampAtBoundary_cases sinceStart <;> rw [h]
  · exact .refl s
  · exact .drive s _
  · exact .drive s _

theorem RangeMove.scheduleAtBoundary (s : State) (firstTwenty : Bool) :
    RangeMove s (s.scheduleAtBoundary firstTwenty) where
  kept hs := ⟨by simpa using hs.posture, by simpa using hs.fault, by simpa using hs.patience,
    by simpa using hs.counters, by simpa using hs.table, by simpa using hs.frames,
    by simpa using hs.highCount, hs.sense.scheduleAtBoundary _⟩
  keen := SameWant.keen (by constructor <;> simp)

theorem RangeMove.boundary (s : State) (sinceStart : Nat) : RangeMove s (s.boundary sinceStart) :=
  (RangeMove.rampAtBoundary s sinceStart).trans ((RangeMove.drive _ _).trans
    (.scheduleAtBoundary (s.rampAtBoundary sinceStart).beginPeriod false))

/-- Samples count to three highs at most (R105). -/
theorem RangeRules.sample {s : State} (h : RangeRules s) (demand : DemandLevel) (ninhHigh : Bool) :
    RangeRules { s with demand := (s.demand.sampleLevel demand).sampleInhibit ninhHigh } := by
  refine ⟨h.posture, h.fault, ?_, h.counters, h.table, h.frames, ?_, h.sense⟩
  · cases ninhHigh <;> exact h.patience
  · cases ninhHigh
    · exact Nat.zero_le _
    · exact Nat.min_le_left _ _

theorem RangeRules.leaveListen {s : State} (h : RangeRules s) : RangeRules s.leaveListen := by
  unfold State.leaveListen
  split_ifs
  · refine (SameCounts.place _ _).rules (SameCounts.rules (.part s.endListen ?_) h.endListen)
    rfl
  · exact h

theorem execDemandSample_range {demand : DemandLevel} {ninhHigh : Bool} {s t : State}
    (h : execDemandSample demand ninhHigh s = .next t) : RangeMove s t :=
  .of_guard_react h fun _ hs =>
    (SameCounts.decideSince _ s).rules (hs.sample demand ninhHigh).leaveListen

/-- A timer of the sense unit is none of its counts (R141, R145). -/
theorem RangeRules.setHolds {s : State} (h : RangeRules s) (lockout sagHold : Option Nat) :
    RangeRules { s with sense := { s.sense with lockout := lockout, sagHold := sagHold } } :=
  h.setSense ⟨h.sense.blanking, h.sense.overdrawRun, h.sense.sagRun, h.sense.schedule⟩

/-! ### The traffic of the line -/

/-- Nothing but the line is written. -/
theorem SameWant.line (s : State) (l : LineInterface) : SameWant s { s with line := l } :=
  ⟨rfl, rfl, rfl, rfl, rfl⟩

namespace RangeMove

theorem setLine {s : State} (hpos : s.line.position.OnLine) {l : LineInterface}
    (hfault : l.faultCount = s.line.faultCount) (hframes : s.line.FramesFit → l.FramesFit) :
    RangeMove s { s with line := l } :=
  ⟨fun hs => hs.setLine (hs.awake_of_onLine hpos) hfault (hframes hs.frames),
    (SameWant.line s l).keen⟩

theorem endFrame {s : State} (hpos : s.line.position.OnLine) (p : LinePosition) :
    RangeMove s (s.endFrame p) := .setLine hpos rfl fun _ => RangeRules.framesFit_endFrame _ _

theorem becomeReceiver {s : State} (hpos : s.line.position.OnLine) :
    RangeMove s s.becomeReceiver :=
  .setLine hpos rfl fun _ => RangeRules.framesFit_endFrame s.line .frame

theorem count (s : State) (c : CounterName) (n : Nat) : RangeMove s (s.count c n) :=
  ⟨fun hs => hs.count c n, SameWant.keen ⟨rfl, rfl, rfl, rfl, rfl⟩⟩

/-- SOF_READ, the end of the interframe and of the jam fall in READY, TAIL and JAM (R88, R90, R94). -/
theorem of_position_guard {p : LinePosition} {s t u : State}
    (h : (if s.clocked && s.line.position == p then .next u else .next s :
      Host.Outcome State Fault Refusal) = .next t) (hoff : p ≠ .off) (hseek : p ≠ .seek)
    (hu : s.line.position.OnLine → RangeMove s u) : RangeMove s t := by
  refine .of_guard h fun hg => hu ?_
  simp only [Bool.and_eq_true, beq_iff_eq] at hg
  exact LinePosition.onLine_of_eq hg.2 hoff hseek

end RangeMove

theorem execTailDominant_range {field : TailField} {s t : State}
    (h : execTailDominant field s = .next t) : RangeMove s t := by
  unfold execTailDominant at h
  cases field
  case endField =>
    exact .of_position_guard h (by decide) (by decide) fun hpos => .endFrame hpos _
  case interframe => exact .of_position_guard h (by decide) (by decide) .becomeReceiver

theorem execBusIdle_range {bits : List Bit} {s t : State} (h : execBusIdle bits s = .next t) :
    RangeMove s t := by
  refine .of_guard h fun hg => ?_
  simp only [Bool.and_eq_true, beq_iff_eq, and_assoc] at hg
  obtain ⟨-, hseek, -⟩ := hg
  split_ifs with hstart
  · refine .react fun hs => ?_
    have hfault : s.line.faultCount ≤ 15 := by
      simpa [hstart, Participation.isHalted] using hs.fault.below
    refine hs.enterGather_setLine ?_ ?_ false
    · exact hfault
    · exact hs.frames
  · refine ⟨fun hs => hs.setLine ⟨hstart, fun hsleep => ?_⟩ rfl hs.frames, (SameWant.line _ _).keen⟩
    exact absurd (hseek.symm.trans (hs.posture.asleep hsleep)) (by decide)

end Sys2Proof.Machine
end

section
/-! What the own frames, the receiver, the outcome of a frame, the tick and the rest do to the ranges of
counts and held values. -/

namespace Sys2Proof.Machine

/-! ### The own frame (R84, R89) -/

/-- The settled values are those of R163, and all 0 while there are none. -/
theorem LoadLaw.cfg_range {s : State} (hl : LoadLaw s) :
    s.cfg.unitsPerLevel ≤ 15 ∧ s.cfg.maxLevel ≤ 15 ∧ s.cfg.floorLevel ≤ s.cfg.maxLevel := by
  cases hc : s.config with
  | none => rw [State.cfg, hc]; exact ⟨Nat.zero_le _, Nat.zero_le _, Nat.zero_le _⟩
  | some c =>
    obtain ⟨-, hranges, hfits⟩ := hl.settled c hc
    simp only [rangesPass, Bool.and_eq_true, decide_eq_true_eq] at hranges
    have hcfg : s.cfg = c := by rw [State.cfg, hc]; rfl
    rw [hcfg]
    exact ⟨hfits.unitsPerLevel, hfits.maxLevel, by tauto⟩

/-- A level within the highest one costs units that fit a byte. -/
theorem LoadLaw.units_le {s : State} (hl : LoadLaw s) {level : Nat} (h : level ≤ s.cfg.maxLevel) :
    level * s.cfg.unitsPerLevel ≤ 255 := by
  obtain ⟨hupl, hmax, -⟩ := hl.cfg_range
  exact (Nat.mul_le_mul (h.trans hmax) hupl).trans (by decide)

theorem State.wantLevel_le_maxLevel (s : State) : s.wantLevel ≤ s.cfg.maxLevel := by
  unfold State.wantLevel
  split_ifs
  · exact Nat.zero_le _
  · exact Nat.min_le_right _ _

theorem LoadLaw.wantFits_ownFrame {s : State} (hl : LoadLaw s) (k : FrameKind) :
    (s.ownFrame k).payload.WantFits := by
  have hwant : s.wantUnits ≤ 255 := hl.units_le s.wantLevel_le_maxLevel
  have hfloor : s.floorUnits ≤ 255 := hl.units_le hl.cfg_range.2.2
  cases k
  case sag => trivial
  case evict => trivial
  case release => exact hwant
  case claim => exact hwant
  case announce =>
    simp only [State.ownFrame, State.ownPayload]
    split_ifs <;> exact ⟨hfloor, hwant⟩

theorem SameWant.afterWithdrawal (before s : State) :
    SameWant s (State.afterWithdrawal before s) := by
  unfold State.afterWithdrawal
  split_ifs <;> constructor <;> simp

theorem execStartOpportunity_range {s t : State} (hl : LoadLaw s)
    (h : execStartOpportunity s = .next t) : RangeMove s t := by
  refine .of_guard h fun hg => ?_
  simp only [Bool.and_eq_true, beq_iff_eq] at hg
  obtain ⟨⟨-, hready⟩, -⟩ := hg
  have hpos := LinePosition.onLine_of_eq hready (by decide) (by decide)
  have hafter : ∀ u : State, RangeMove u (State.afterWithdrawal s u) := fun u =>
    ⟨(SameCounts.afterWithdrawal s u).rules, (SameWant.afterWithdrawal s u).keen⟩
  refine RangeMove.trans ?_ (hafter _)
  split
  · rename_i k _
    refine RangeMove.setLine hpos rfl fun _ f hf => ?_
    obtain rfl := Option.some.inj (hf.resolve_right nofun)
    refine LoadLaw.wantFits_ownFrame ?_ k
    exact ⟨fun hn => absurd (hl.blocks hn).position (by rw [hready]; decide), hl.halted, hl.settled⟩
  · exact .setLine hpos rfl id

/-! ### The sender (R91, R92, R95) -/

theorem execArbitrationLost_range {bits : List Bit} {s t : State}
    (h : execArbitrationLost bits s = .next t) : RangeMove s t := by
  refine .of_guard h fun hg => ?_
  exact .setLine (State.sending_onLine (Bool.and_eq_true_iff.mp hg).1) rfl
    fun hs f hf => hs f (.inr (hf.resolve_left nofun))

/-- An error on the own frame (R92, R100). -/
theorem RangeMove.endWithOwnError {s : State} (hpos : s.line.position.OnLine) :
    RangeMove s (s.endFrame .seek).ownError.react :=
  .react fun hs => (hs.endFrame hpos .seek).ownError (hs.awake_of_onLine hpos)

theorem execBitError_range {bits : List Bit} {s t : State} (h : execBitError bits s = .next t) :
    RangeMove s t := by
  unfold execBitError at h
  split at h
  · have hpos := State.sending_onLine ‹_›
    split at h <;> obtain rfl := Host.Outcome.next.inj h
    · exact .endWithOwnError hpos
    · exact .setLine hpos rfl fun _ => RangeRules.framesFit_endFrame s.line .frame
    all_goals exact .refl _
  · obtain rfl := Host.Outcome.next.inj h
    exact .refl _

theorem execBitErrorWatchEnd_range {bits : List Bit} {s t : State}
    (h : execBitErrorWatchEnd bits s = .next t) : RangeMove s t := by
  unfold execBitErrorWatchEnd at h
  split at h
  · rename_i hg
    simp only [Bool.and_eq_true, beq_iff_eq] at hg
    obtain ⟨⟨-, hframe⟩, -⟩ := hg
    have hpos := LinePosition.onLine_of_eq hframe (by decide) (by decide)
    split at h <;> obtain rfl := Host.Outcome.next.inj h
    · exact (RangeMove.endFrame hpos _).trans (.count _ _ _)
    · exact .endWithOwnError hpos
    · exact .refl _
  · obtain rfl := Host.Outcome.next.inj h
    exact .refl _

/-! ### The receiver (R93, R94, R96) -/

theorem RangeMove.jamOrSeek {s : State} (hpos : s.line.position.OnLine) :
    RangeMove s s.jamOrSeek := by
  unfold State.jamOrSeek
  split_ifs
  · refine (RangeMove.count s _ _).trans (RangeMove.setLine ?_ rfl fun _ => ?_)
    · exact hpos
    · exact RangeRules.framesFit_endFrame s.line .jam
  · exact .endFrame hpos _

theorem execFormatError_range {bits : List Bit} {s t : State}
    (h : execFormatError bits s = .next t) : RangeMove s t := by
  refine .of_guard_react h fun hg hs => ?_
  have hpos := State.receiving_onLine (Bool.and_eq_true_iff.mp hg).1
  refine (RangeMove.jamOrSeek ?_).kept (hs.ownError (hs.awake_of_onLine hpos))
  rw [State.ownError_line]
  exact hpos

theorem execJamRecognised_range {bits : List Bit} {s t : State}
    (h : execJamRecognised bits s = .next t) : RangeMove s t := by
  refine .of_guard h fun hg => ?_
  have hpos := State.receiving_onLine (Bool.and_eq_true_iff.mp hg).1
  split_ifs
  · exact .jamOrSeek hpos
  · exact (RangeMove.endFrame hpos _).trans (.count _ _ _)

theorem RangeMove.driveSlot {s : State} (hpos : s.line.position.OnLine) (f : Frame) :
    RangeMove s (s.driveSlot f) := by
  unfold State.driveSlot
  split_ifs
  · exact .setLine hpos rfl id
  · refine RangeMove.trans ?_ (.count _ _ _)
    exact .setLine hpos rfl id

theorem execFrameReceived_range {bits : List Bit} {s t : State}
    (h : execFrameReceived bits s = .next t) : RangeMove s t := by
  unfold execFrameReceived at h
  split at h
  · have hpos := State.receiving_onLine ‹_›
    split at h
    · rename_i r f hread
      split at h <;> obtain rfl := Host.Outcome.next.inj h
      · exact .react fun hs => hs.enterHalted .conflict
      · have hheld : RangeMove s { s with line := { s.line with rx := r, received := some f } } := by
          refine .setLine hpos rfl fun hs g hg => ?_
          obtain htx | hreceived := hg
          · exact hs g (.inl htx)
          · obtain rfl := Option.some.inj hreceived
            exact wantFits_of_readBits (congrArg Prod.snd hread)
        split_ifs
        · refine hheld.trans (RangeMove.driveSlot ?_ f)
          exact hpos
        · exact hheld
    · obtain rfl := Host.Outcome.next.inj h
      exact .refl _
  · obtain rfl := Host.Outcome.next.inj h
    exact .refl _

/-! ### A frame confirmed (R97) -/

/-- The frame at its slots is one that the line interface holds. -/
theorem RangeRules.wantFits_slotFrame {s : State} (h : RangeRules s) {f : Frame}
    (hf : s.slotFrame = some f) : f.payload.WantFits := by
  unfold State.slotFrame at hf
  split_ifs at hf
  split at hf
  · exact h.frames f (.inl hf)
  · exact h.frames f (.inr hf)
  · contradiction

namespace RangeRules

variable {s : State}

theorem counted (h : RangeRules s) (hpos : s.line.position.OnLine) (f : Frame) (own : Bool) :
    RangeRules (s.counted f own) := by
  have hended := ((h.endFrame hpos .tail).lowerFault).count .framesConfirmed 1
  cases own
  · exact hended
  · exact (SameCounts.ownConfirmed _ f).rules (hended.count .ownConfirmed 1)

theorem adopt (h : RangeRules s) {t : Table} (ht : t.InRange) (f : Frame) :
    RangeRules (s.adopt t f) :=
  ⟨h.posture, h.fault, h.patience, h.counters, ht.heard f.sender, h.frames, h.highCount, h.sense⟩

theorem setPart (h : RangeRules s) {p : ParticipationUnit} (hp : p.state = s.part.state) :
    RangeRules { s with part := p } := (SameCounts.part s hp).rules h

theorem setPatience (h : RangeRules s) {n : Nat} (hn : PatienceRange s.part.state n) :
    RangeRules { s with demand := { s.demand with patience := n } } :=
  ⟨h.posture, h.fault, hn, h.counters, h.table, h.frames, h.highCount, h.sense⟩

theorem shed (h : RangeRules s) : RangeRules ((s.raise .shed).count .timesShed 1) :=
  ((SameCounts.raise s .shed).rules h).count _ _

/-- What a confirmed frame does in ACTIVE beside the table. -/
theorem activeEffects (h : RangeRules s) (hactive : s.part.state = .active) (f : Frame)
    (own eager : Bool) (n : Nat) : RangeRules (s.activeEffects f own eager n) := by
  unfold State.activeEffects
  dsimp only
  split
  case h_1 =>
    split_ifs
    · exact h.setHolds _ _
    · exact h
  case h_2 =>
    split_ifs
    · exact (SameCounts.ownEvicted _).rules (h.count _ _)
    · exact h.count _ _
  case h_3 => exact h
  case h_4 victims _ =>
    have hshed : ∃ u : State, (if listsVictim s.own victims = true
        then (s.raise .shed).count .timesShed 1 else s) = u ∧ RangeRules u ∧
          u.part.state = .active := by
      split_ifs
      · exact ⟨_, rfl, h.shed, hactive⟩
      · exact ⟨_, rfl, h, hactive⟩
    obtain ⟨u, hu, hrules, hstate⟩ := hshed
    rw [hu]
    split_ifs
    · exact hrules.setPatience ⟨Nat.zero_le _, fun h0 => absurd rfl h0⟩
    · exact hrules.setPatience ⟨Nat.min_le_left _ _, fun _ => hstate⟩
    · exact hrules
  case h_5 =>
    split_ifs
    · refine h.setPart ?_; rfl
    · exact h

theorem gatherEffects (h : RangeRules s) (f : Frame) (n : Nat) :
    RangeRules (s.gatherEffects f n) := by
  unfold State.gatherEffects
  dsimp only
  split
  case h_1 =>
    split_ifs
    · refine ((SameCounts.raise _ _).rules (h.count _ _)).setPart ?_; rfl
    · exact h.count _ _
  case h_2 =>
    split_ifs
    · exact h.shed
    · exact h
  all_goals exact h

theorem recogniseEviction (h : RangeRules s) (f : Frame) : RangeRules (s.recogniseEviction f) := by
  unfold State.recogniseEviction
  split
  case h_1 =>
    split_ifs
    · refine ((SameCounts.raise s _).rules h).setPart ?_; rfl
    · exact h
  all_goals exact h

/-- The own rejoin ANNOUNCE takes a station in GATHER to ACTIVE (R69). -/
theorem rejoinedIf (h : RangeRules s) (hgather : s.part.state.isGather = true) (own : Bool) :
    RangeRules (s.rejoinedIf own) := by
  unfold State.rejoinedIf
  split_ifs
  · have hfault := h.fault.le_of_isGather hgather
    exact ⟨⟨fun _ => rfl, nofun, nofun⟩, ⟨h.fault.le, .inr (.inr hfault)⟩,
      ⟨h.patience.le, fun _ => rfl⟩, h.counters, h.table, h.frames, h.highCount, h.sense⟩
  · exact h

end RangeRules

end Sys2Proof.Machine
end

section
/-! The law of counts (R9, R84, R100, R101, R105, R111, R136 to R142, R158, R161, R170) under every
command. -/

namespace Sys2Proof.Machine

/-! ### The outcome of a frame (R97 to R99) -/

theorem RangeMove.confirmActive {s : State} {f : Frame} (hslot : s.slotFrame = some f)
    (hactive : s.part.state = .active) (own : Bool) : RangeMove s (s.confirmActive f own) := by
  rw [State.confirmActive_eq]
  refine .react fun hs => (SameCounts.decideDemand _).rules ?_
  have hcounted := hs.counted (State.slotFrame_onLine hslot) f own
  have hstate := (Quiet.counted s f own).state.trans hactive
  split_ifs
  · unfold State.applyActive
    refine ((SameCounts.raiseIf _ _ _).rules (hcounted.adopt ?_ f)).activeEffects ?_ f own _ _
    · exact hcounted.table.applyActive (hs.wantFits_slotFrame hslot) _
    · simpa using hstate
  · exact hcounted

theorem RangeMove.confirmGather {s : State} {f : Frame} (hslot : s.slotFrame = some f)
    (hgather : s.part.state.isGather = true) (own : Bool) : RangeMove s (s.confirmGather f own) := by
  rw [State.confirmGather_eq]
  split_ifs
  · exact .react fun hs =>
      (hs.counted (State.slotFrame_onLine hslot) f own).enterHalted .budget
  · refine .react fun hs => (SameCounts.decideDemand _).rules ?_
    have hadopted := (hs.counted (State.slotFrame_onLine hslot) f own).adopt
      (hs.table.applyGather (hs.wantFits_slotFrame hslot) s.own) f
    refine (hadopted.gatherEffects f _).rejoinedIf ?_ own
    rw [(Quiet.gatherEffects _ _ _).state, State.adopt_part, (Quiet.counted s f own).state]
    exact hgather

theorem RangeMove.confirmMute {s : State} {f : Frame} (hslot : s.slotFrame = some f) (own : Bool) :
    RangeMove s (s.confirmMute f own) :=
  .react fun hs =>
    ((hs.counted (State.slotFrame_onLine hslot) f own).recogniseEviction f).leaveMute

theorem execFrameConfirmed_range {ack : Bit} {s t : State}
    (h : execFrameConfirmed ack s = .next t) : RangeMove s t := by
  unfold execFrameConfirmed at h
  split at h
  · obtain rfl := Host.Outcome.next.inj h
    exact .refl _
  rename_i f hf
  split_ifs at h
  · obtain rfl := Host.Outcome.next.inj h
    exact .refl _
  split at h <;> rename_i hstate <;> obtain rfl := Host.Outcome.next.inj h
  · exact .confirmActive hf hstate _
  · exact .confirmGather hf (by rw [hstate]; rfl) _
  · exact .confirmMute hf _
  all_goals exact .refl _

theorem RangeRules.completeVoid {s : State} (h : RangeRules s) (hpos : s.line.position.OnLine) :
    RangeRules s.completeVoid := ((h.endFrame hpos .tail).lowerFault).count .framesVoid 1

theorem RangeMove.completeVoid {s : State} (hpos : s.line.position.OnLine) :
    RangeMove s s.completeVoid :=
  ⟨fun hs => hs.completeVoid hpos, SameWant.keen ⟨rfl, rfl, rfl, rfl, rfl⟩⟩

/-- Back to phase WINDOW from GATHER, where patience is 0 (R69, R111). -/
theorem RangeMove.windowAgain {s : State} (hgather : s.part.state.isGather = true) :
    RangeMove s s.windowAgain where
  kept hs := by
    obtain ⟨hactive, -⟩ := Participation.isGather_ne hgather
    have hlisten : s.power.state ≠ .listen := fun h => hactive (hs.posture.listen h)
    have hfault := hs.fault.le_of_isGather hgather
    exact ⟨⟨fun h => absurd h hlisten, nofun, nofun⟩, ⟨hs.fault.le, .inr (.inr hfault)⟩,
      ⟨hs.patience.le, fun h0 => absurd (hs.patience.active h0) hactive⟩, hs.counters, hs.table,
      hs.frames, hs.highCount, hs.sense⟩
  keen := SameWant.keen ⟨rfl, rfl, rfl, rfl, rfl⟩

theorem execFrameVoid_range {ack : Bit} {s t : State} (h : execFrameVoid ack s = .next t) :
    RangeMove s t := by
  unfold execFrameVoid at h
  split at h
  · obtain rfl := Host.Outcome.next.inj h
    exact .refl _
  rename_i f hf
  have hpos := State.slotFrame_onLine hf
  split_ifs at h
  · obtain rfl := Host.Outcome.next.inj h
    exact .refl _
  dsimp only at h
  split at h <;> rename_i hstate <;> obtain rfl := Host.Outcome.next.inj h
  · split_ifs
    · refine .react fun hs => (hs.completeVoid hpos).enterGather ?_ true
      have hbelow : s.line.faultCount ≤ 15 := by
        simpa [hstate, Participation.isHalted] using hs.fault.below
      exact (Nat.sub_le _ _).trans hbelow
    · exact .completeVoid hpos
  · split_ifs
    · refine (RangeMove.completeVoid hpos).trans (.windowAgain ?_)
      rw [(Quiet.completeVoid s).state, hstate]; rfl
    · exact .completeVoid hpos
  · exact .react fun hs => (hs.completeVoid hpos).leaveMute
  all_goals exact .refl _

theorem execFrameJammed_range {s t : State} (h : execFrameJammed s = .next t) : RangeMove s t := by
  unfold execFrameJammed at h
  split at h
  · obtain rfl := Host.Outcome.next.inj h
    exact .refl _
  · have hpos := State.slotFrame_onLine ‹_›
    split_ifs at h <;> obtain rfl := Host.Outcome.next.inj h
    · exact .refl _
    · exact (RangeMove.endFrame hpos _).trans (.count _ _ _)

/-! ### The tick and the close of the window (R9, R68) -/

theorem RangeRules.setTable {s : State} (h : RangeRules s) {t : Table} (ht : t.InRange) :
    RangeRules { s with table := t } :=
  ⟨h.posture, h.fault, h.patience, h.counters, ht, h.frames, h.highCount, h.sense⟩

theorem RangeRules.tickAges {s : State} (h : RangeRules s) : RangeRules s.tickAges := by
  unfold State.tickAges
  split_ifs
  · exact h.setTable h.table.aged
  · exact h

theorem RangeRules.closeWindow {s : State} (h : RangeRules s)
    (hwindow : s.part.state = .gather .window) : RangeRules s.closeWindow := by
  have hactive : s.part.state ≠ .active := by rw [hwindow]; decide
  have hfault : s.line.faultCount ≤ 15 := by
    simpa [hwindow, Participation.isHalted] using h.fault.below
  refine (SameCounts.place _ .rejoin).rules ⟨⟨fun hl => absurd (h.posture.listen hl) hactive, nofun,
    nofun⟩, ⟨h.fault.le, .inr (.inr hfault)⟩, ⟨h.patience.le, fun h0 => ?_⟩, h.counters,
    h.table.closed, h.frames, h.highCount, h.sense⟩
  exact absurd (h.patience.active h0) hactive

theorem RangeRules.tickWindow {s : State} (h : RangeRules s) : RangeRules s.tickWindow := by
  unfold State.tickWindow
  split_ifs with hwindow
  · refine h.setPart ?_; rfl
  · exact h.closeWindow hwindow
  · exact h

theorem execTick_range {s t : State} (h : execTick s = .next t) : RangeMove s t :=
  .of_guard_react h fun _ hs => (((SameCounts.tickAnnounce _).trans (.tickIdle _)).trans
    ((SameCounts.tickDormant _).trans (.lookForSilence _))).rules
      ((SameCounts.tickHorizon _).rules hs.tickAges).tickWindow

theorem execWindowClose_range {s t : State} (h : execWindowClose s = .next t) : RangeMove s t := by
  refine .of_guard_react h fun hg hs => hs.closeWindow ?_
  simp only [Bool.and_eq_true, beq_iff_eq] at hg
  exact hg.1.2

/-- A command that touches none of the counts, nor what patience is measured against. -/
theorem SameCounts.move {s t : State} (h : SameCounts s t) (k : SameWant s t) : RangeMove s t :=
  ⟨h.rules, k.keen⟩

/-! ### Rest and wake (R149, R154 to R156) -/

theorem SenseUnit.inRange_stopPeriods (s : State) : s.stopPeriods.sense.InRange :=
  ⟨Nat.zero_le _, Nat.zero_le _, Nat.zero_le _, Nat.zero_le _⟩

theorem execListenEntry_range {s t : State} (h : execListenEntry s = .next t) : RangeMove s t := by
  refine .of_guard h fun hg => ⟨fun hs => ?_, SameWant.keen (by constructor <;> simp)⟩
  simp only [Bool.and_eq_true, State.idle, and_assoc] at hg
  obtain ⟨-, hactive, -⟩ := hg
  have hactive := (State.activeRun_iff.mp hactive).1
  exact ⟨by simpa using ⟨fun _ => hactive, hs.posture.start, hs.posture.asleep⟩,
    by simpa using hs.fault, by simpa using hs.patience, by simpa using hs.counters,
    by simpa using hs.table, by simpa using hs.frames, by simpa using hs.highCount,
    SenseUnit.inRange_stopPeriods _⟩

theorem execDormantEntry_range {s t : State} (h : execDormantEntry s = .next t) :
    RangeMove s t := by
  refine .of_guard h fun hg => ⟨fun hs => ?_, fun _ h0 => absurd (by simp) h0⟩
  simp only [Bool.and_eq_true, beq_iff_eq, and_assoc] at hg
  obtain ⟨-, hlisten, -⟩ := hg
  have hfault : s.line.faultCount ≤ 15 := by
    simpa [hs.posture.listen hlisten, Participation.isHalted] using hs.fault.below
  refine ⟨?_, ?_, ?_, by simpa using hs.counters, by simpa using Table.InRange.allAbsent, ?_,
    by simpa using hs.highCount, SenseUnit.inRange_stopPeriods _⟩
  · simpa using (⟨nofun, nofun, fun _ => rfl⟩ : Posture .sleep .off .dormant)
  · simpa using (⟨hs.fault.le, .inr (.inr hfault)⟩ : FaultRange .sleep s.line.faultCount)
  · simpa using (⟨Nat.zero_le _, fun h0 => absurd rfl h0⟩ : PatienceRange .sleep 0)
  · simpa using RangeRules.framesFit_endFrame { s.line with outbox := Outbox.empty } .off

theorem execWake_range {demand : DemandLevel} {ninhHigh : Bool} {s t : State}
    (h : execWake demand ninhHigh s = .next t) : RangeMove s t :=
  .of_guard h fun _ => ⟨fun hs => ⟨⟨nofun, hs.posture.start, hs.posture.asleep⟩, hs.fault,
    hs.patience, hs.counters, hs.table, hs.frames, hs.highCount, hs.sense⟩,
    SameWant.keen ⟨rfl, rfl, rfl, rfl, rfl⟩⟩

theorem execWakeClockReady_range {s t : State} (h : execWakeClockReady s = .next t) :
    RangeMove s t := by
  refine .of_guard_react h fun hg hs => ?_
  simp only [Bool.and_eq_true, beq_iff_eq, and_assoc] at hg
  obtain ⟨-, -, hsleep, -⟩ := hg
  have hfault : s.line.faultCount ≤ 15 := by
    simpa [hsleep, Participation.isHalted] using hs.fault.below
  have hsampled : RangeRules { s with
      power := { s.power with clockReady := true }
      demand := { s.demand with sameCount := 0, highCount := 0 } } :=
    ⟨hs.posture, hs.fault, hs.patience, hs.counters, hs.table, hs.frames, Nat.zero_le _, hs.sense⟩
  have hgather := hsampled.enterGather hfault false
  have hline := hgather.setLine (l := { (State.enterGather _ false).line with
    position := .seek, idleRun := 0 })
    (by rw [State.enterGather_part]; exact ⟨nofun, nofun⟩) rfl hgather.frames
  exact ((RangeMove.drive _ _).trans (.scheduleAtBoundary _ true)).kept hline

/-! ### Every command of the running station -/

/-- The commands of the monitor port leave the counters, or set them to 0 (R170). -/
theorem RangeMove.take (s : State) (bits : List Bit) (c : MonitorCommand) :
    RangeMove s (s.take bits c) := by
  have hport : ∀ m : MonitorPort, m.counters.InRange ∨ m.counters = s.monitor.counters →
      RangeMove s { s with monitor := m } := fun m hm =>
    ⟨fun hs => ⟨hs.posture, hs.fault, hs.patience, hm.elim id fun he => he ▸ hs.counters, hs.table,
      hs.frames, hs.highCount, hs.sense⟩, SameWant.keen ⟨rfl, rfl, rfl, rfl, rfl⟩⟩
  cases c
  case clear => exact hport _ (.inl Counters.inRange_zero)
  all_goals exact hport _ (.inr rfl)

theorem RangeMove.setPort (s : State) {m : MonitorPort} (h : m.counters = s.monitor.counters) :
    RangeMove s { s with monitor := m } :=
  SameCounts.move ⟨rfl, rfl, rfl, rfl, rfl, rfl, rfl, rfl, h, rfl, rfl⟩ ⟨rfl, rfl, rfl, rfl, rfl⟩

theorem execSckEdge_range {rising : Bool} {mosi : Bit} {s t : State}
    (h : execSckEdge rising mosi s = .next t) : RangeMove s t := by
  unfold execSckEdge at h
  split at h
  · obtain rfl := Host.Outcome.next.inj h
    exact .refl _
  · refine .of_guard h fun _ => ?_
    split_ifs
    · unfold State.sckRise
      dsimp only
      split_ifs
      · exact .refl _
      · split
        · exact .take s _ _
        · exact .setPort s rfl
    · exact .setPort s rfl

theorem exec_monitor_range {c : Instr} {s t : State} (hc : c.isMonitor = true)
    (h : exec c s = .next t) : RangeMove s t := by
  cases c
  case ncsFall =>
    obtain ⟨-, rfl⟩ | rfl := next_of_guard (p := s.monitor.ncsLow = true) h
    · exact .refl _
    · exact .setPort s rfl
  case ncsRise =>
    obtain rfl := Host.Outcome.next.inj h
    exact .setPort s rfl
  case status => exact .of_guard h fun _ => .take s _ _
  case entry => exact .of_guard h fun _ => .take s _ _
  case counters => exact .of_guard h fun _ => .take s _ _
  case events => exact .of_guard h fun _ => .take s _ _
  case clear => exact .of_guard h fun _ => .take s _ _
  case unknownCommand => exact .of_guard h fun _ => .take s _ _
  case sckEdge => exact execSckEdge_range h
  all_goals contradiction

theorem exec_running_range {c : Instr} {s t : State} (hl : LoadLaw s) (hc : c.isStartUp = false)
    (h : exec c s = .next t) : RangeMove s t := by
  by_cases hm : c.isMonitor = true
  · exact exec_monitor_range hm h
  have hpower : ∀ p : PowerControl, p.state = s.power.state →
      RangeMove s { s with power := p } := fun p hp =>
    SameCounts.move ⟨rfl, hp, rfl, rfl, rfl, rfl, rfl, rfl, rfl, rfl, rfl⟩ ⟨rfl, rfl, rfl, rfl, rfl⟩
  cases c
  case busIdle => exact execBusIdle_range h
  case startOpportunity => exact execStartOpportunity_range hl h
  case arbitrationLost => exact execArbitrationLost_range h
  case bitError => exact execBitError_range h
  case bitErrorWatchEnd => exact execBitErrorWatchEnd_range h
  case formatError => exact execFormatError_range h
  case jamRecognised => exact execJamRecognised_range h
  case jamEnd =>
    exact .of_position_guard h (by decide) (by decide) fun hpos => .endFrame hpos _
  case tailDominant => exact execTailDominant_range h
  case frameReceived => exact execFrameReceived_range h
  case frameConfirmed ack => exact execFrameConfirmed_range (ack := ack) h
  case frameVoid => exact execFrameVoid_range h
  case frameJammed => exact execFrameJammed_range h
  case tick => exact execTick_range h
  case silenceLimitReached =>
    exact .of_guard h fun _ => (SameCounts.lookForSilence s).move (by constructor <;> simp)
  case announceTimerExpiry =>
    refine .of_guard h fun _ => (SameCounts.announceDue s).move ?_
    unfold State.announceDue
    constructor <;> simp
  case windowClose => exact execWindowClose_range h
  case horizonExpiry => exact .of_guard_react h fun _ hs => hs.setPart rfl
  case idleTimerExpiry => exact .of_guard h fun _ => hpower _ rfl
  case dormantTimerExpiry => exact .of_guard h fun _ => hpower _ rfl
  case listenEntry => exact execListenEntry_range h
  case dormantEntry => exact execDormantEntry_range h
  case wake => exact execWake_range h
  case wakeClockReady => exact execWakeClockReady_range h
  case demandSample => exact execDemandSample_range h
  case periodBoundary => exact .of_guard h fun _ => .boundary s _
  case conversionReady => exact execConversionReady_range h
  case lockoutExpiry =>
    exact .of_guard_react h fun _ hs => (SameCounts.decideSince _ s).rules (hs.setHolds _ _)
  case sagHoldExpiry => exact .of_guard_react h fun _ hs => hs.setHolds _ _
  case sofRead => exact .of_position_guard h (by decide) (by decide) .becomeReceiver
  case interframeEnd =>
    exact .of_position_guard h (by decide) (by decide) fun hpos => .endFrame hpos _
  case onTimeElapsed => exact execOnTimeElapsed_range h
  all_goals contradiction

/-! ### Reset and the load -/

/-- The loader holds none of the counts, and a load that runs finds the demand unit at rest. -/
theorem RangeRules.setLoader {s : State} (h : RangeRules s) (l : Loader) (ready : Bool) :
    RangeRules { s with loader := l, power := { s.power with clockReady := ready } } :=
  ⟨h.posture, h.fault, h.patience, h.counters, h.table, h.frames, h.highCount, h.sense⟩

/-- A step of the load from a station whose demand unit is at rest. -/
structure LoadRange (s t : State) : Prop where
  kept : RangeRules s → RangeRules t
  keen : s.demand.patience = 0 → t.Keen

theorem LoadRange.setLoader (s : State) (l : Loader) (ready : Bool) :
    LoadRange s { s with loader := l, power := { s.power with clockReady := ready } } :=
  ⟨fun hs => hs.setLoader l ready, fun h0 hn => absurd h0 hn⟩

theorem LoadRange.failLoad (s : State) : LoadRange s s.failLoad := by
  refine ⟨fun hs => (RangeMove.react (s := s) fun hs => ?_).kept hs, fun _ => State.react_keen _⟩
  exact (hs.setLoader { s.loader with status := .failed, port := .idle }
    s.power.clockReady).enterHalted .config

theorem LoadRange.failAttempt (s : State) : LoadRange s s.failAttempt := by
  unfold State.failAttempt
  split_ifs
  · exact .setLoader s _ s.power.clockReady
  · exact .failLoad s

theorem LoadRange.beginAttempt (s : State) (sda : SdaReading) : LoadRange s (s.beginAttempt sda) := by
  unfold State.beginAttempt
  dsimp only
  split_ifs
  · have hfail := LoadRange.failAttempt { s with loader := { s.loader with
      attempts := s.loader.attempts + 1, wire := clearingLevels sda } }
    exact ⟨fun hs => hfail.kept (hs.setLoader _ s.power.clockReady), hfail.keen⟩
  · exact .setLoader s _ s.power.clockReady

/-- Settlement in START (R163). -/
theorem LoadRange.settle {s : State} (hstart : s.part.state = .start) (c : Settings) :
    LoadRange s (s.settle c) := by
  refine ⟨fun hs => (RangeMove.react (s := s) fun hs => ?_).kept hs, fun _ => State.react_keen _⟩
  have hseek : RangeRules { s with
      config := some c
      loader := { s.loader with status := .settled, port := .idle }
      line := { s.line with position := .seek, idleRun := 0 } } :=
    ⟨⟨hs.posture.listen, fun _ => .inr rfl, fun h => absurd (hstart.symm.trans h) (by decide)⟩,
      hs.fault, hs.patience, hs.counters, hs.table, hs.frames, hs.highCount, hs.sense⟩
  exact ((RangeMove.drive _ _).trans (.scheduleAtBoundary _ true)).kept hseek

theorem RangeRules.resetBlocks (s : State) (rst : ResetUnit) : RangeRules (s.resetBlocks rst) where
  posture := ⟨nofun, fun _ => .inl rfl, nofun⟩
  fault := ⟨Nat.zero_le _, .inr (.inr (Nat.zero_le _))⟩
  patience := ⟨Nat.zero_le _, fun h0 => absurd rfl h0⟩
  counters := Counters.inRange_zero
  table := Table.InRange.allAbsent
  frames := fun _ hf => hf.elim nofun nofun
  highCount := Nat.zero_le _
  sense := ⟨Nat.zero_le _, Nat.zero_le _, Nat.zero_le _, Nat.zero_le _⟩

/-- The ranges under the commands of a reset and of the load. -/
theorem exec_startUp_range {c : Instr} {s t : State} (hl : LoadLaw s) (hc : c.isStartUp = true)
    (h : exec c s = .next t) : RangeMove s t := by
  have hload : ∀ {u : State}, s.loader.status = .waiting ∨ s.loader.status = .reading →
      LoadRange s u → RangeMove s u := fun hstatus hu =>
    ⟨hu.kept, fun _ => hu.keen (by rw [(hl.loading hstatus).1.demand]; rfl)⟩
  have hreset : ∀ rst, RangeMove s (s.resetBlocks rst) := fun rst =>
    ⟨fun _ => .resetBlocks s rst, fun _ h0 => absurd rfl h0⟩
  cases c
  case reset cause =>
    unfold exec execReset at h
    dsimp only at h
    split at h <;> obtain rfl := Host.Outcome.next.inj h
    · exact SameCounts.move ⟨rfl, rfl, rfl, rfl, rfl, rfl, rfl, rfl, rfl, rfl, rfl⟩
        ⟨rfl, rfl, rfl, rfl, rfl⟩
    · exact hreset _
  case resetEnd => exact .of_guard h fun _ => hreset _
  case clockReady address cls sda =>
    refine .of_guard h fun hg => ?_
    simp only [Bool.and_eq_true, beq_iff_eq] at hg
    refine hload (.inl hg.2) ?_
    have hbegin := LoadRange.beginAttempt { s with
      power := { s.power with clockReady := true }
      loader := { s.loader with
        status := .reading
        straps := { address := address, cls := cls, sampled := true } } } sda
    exact ⟨fun hs => hbegin.kept (hs.setLoader _ true), hbegin.keen⟩
  case attemptFailed at_ =>
    refine .of_guard h fun hg => ?_
    simp only [State.attempting, Bool.and_eq_true, beq_iff_eq] at hg
    refine hload (.inr hg.1.2) ?_
    have hfail := LoadRange.failAttempt { s with loader := { s.loader with
      wire := s.loader.wire ++ failedPhase at_ } }
    exact ⟨fun hs => hfail.kept (hs.setLoader _ s.power.clockReady), hfail.keen⟩
  case retryWaitExpiry =>
    refine .of_guard h fun hg => ?_
    simp only [Bool.and_eq_true, beq_iff_eq] at hg
    exact hload (.inr hg.1.2) (.beginAttempt s _)
  case attemptComplete bits =>
    refine .of_guard h fun hg => ?_
    simp only [State.attempting, Bool.and_eq_true, beq_iff_eq] at hg
    obtain ⟨⟨⟨-, hreading⟩, -⟩, -⟩ := hg
    obtain ⟨-, hstart⟩ := hl.loading (.inr hreading)
    refine hload (.inr hreading) ?_
    have hread : RangeRules s → RangeRules (s.readImage (bytesOf bits)) := fun hs =>
      hs.setLoader _ s.power.clockReady
    split_ifs
    · have hsettle := LoadRange.settle (s := s.readImage (bytesOf bits)) hstart
        (decodeImage (bytesOf bits))
      exact ⟨fun hs => hsettle.kept (hread hs), hsettle.keen⟩
    · have hfail := LoadRange.failLoad (s.readImage (bytesOf bits))
      exact ⟨fun hs => hfail.kept (hread hs), hfail.keen⟩
  all_goals contradiction

theorem LoadLaw.exec_range {c : Instr} {s t : State} (hl : LoadLaw s) (h : Machine.exec c s = .next t) :
    RangeMove s t := by
  by_cases hc : c.isStartUp = true
  · exact exec_startUp_range hl hc h
  · exact exec_running_range hl (Bool.eq_false_iff.mpr hc) h

end Sys2Proof.Machine
end

section
/-! The law of the timers counted in ticks (R60, R70, R79, R148, R153) under every command, and the two
step lemmas for counts and timers. -/

namespace Sys2Proof.Machine

/-! ### The timers, unit by unit -/

/-- The window, announce and horizon timers stand within their limits (R60, R70, R79). -/
structure ParticipationUnit.InTime (period : Nat) (p : ParticipationUnit) : Prop where
  window : p.state = .gather .window → p.windowTimer < 2 * period
  announce : p.announceTimer ≤ period
  horizon : ∀ n, p.horizon = .counting n → n < 2 * period

/-- The idle and dormant timers stand within their delays (R148, R153). -/
structure PowerControl.InTime (c : Settings) (p : PowerControl) : Prop where
  idle : p.idleTimer ≤ 100 * c.idleDelay
  dormant : p.dormantTimer ≤ 100 * c.dormantDelay

/-- A reaction sets the idle timer to 0 or leaves it (R148). -/
theorem State.react_power_cases (s : State) :
    s.react.power = s.power ∨ s.react.power = { s.power with idleTimer := 0 } := by
  simp only [State.react]
  unfold State.restIdle
  split_ifs <;> simp

/-- What every command does to the timers of a settled station: the announce period stands, and the
timers stay within their limits. -/
structure TimerMove (s t : State) : Prop where
  config : t.config = s.config
  part : 0 < s.cfg.announcePeriod → s.part.InTime s.cfg.announcePeriod →
    t.part.InTime s.cfg.announcePeriod
  power : s.power.InTime s.cfg → t.power.InTime s.cfg

namespace TimerMove

theorem cfg {s t : State} (h : TimerMove s t) : t.cfg = s.cfg := by rw [State.cfg, h.config]; rfl

theorem trans {s t u : State} (h : TimerMove s t) (k : TimerMove t u) : TimerMove s u where
  config := k.config.trans h.config
  part hp hs := h.cfg ▸ k.part (by rw [h.cfg]; exact hp) (by rw [h.cfg]; exact h.part hp hs)
  power hs := h.cfg ▸ k.power (by rw [h.cfg]; exact h.power hs)

/-- Neither the participation unit nor power control is written. -/
theorem same {s t : State} (hconfig : t.config = s.config) (hpart : t.part = s.part)
    (hpower : t.power = s.power) : TimerMove s t :=
  ⟨hconfig, fun _ hs => hpart ▸ hs, fun hs => hpower ▸ hs⟩

theorem refl (s : State) : TimerMove s s := .same rfl rfl rfl

/-- Power control is not written. -/
theorem of_part {s t : State} (hconfig : t.config = s.config) (hpower : t.power = s.power)
    (hpart : 0 < s.cfg.announcePeriod → s.part.InTime s.cfg.announcePeriod →
      t.part.InTime s.cfg.announcePeriod) : TimerMove s t := ⟨hconfig, hpart, fun hs => hpower ▸ hs⟩

/-- The participation unit is not written. -/
theorem of_power {s t : State} (hconfig : t.config = s.config) (hpart : t.part = s.part)
    (hpower : s.power.InTime s.cfg → t.power.InTime s.cfg) : TimerMove s t :=
  ⟨hconfig, fun _ hs => hpart ▸ hs, hpower⟩

theorem of_guard {p : Prop} [Decidable p] {u s t : State}
    (h : (if p then .next u else .next s : Host.Outcome State Fault Refusal) = .next t)
    (hu : p → TimerMove s u) : TimerMove s t := by
  obtain ⟨hp, rfl⟩ | rfl := next_of_guard h
  · exact hu hp
  · exact .refl _

theorem react (s : State) : TimerMove s s.react := by
  refine .of_power (by simp) (by simp) fun hs => ?_
  obtain h | h := s.react_power_cases <;> rw [h]
  · exact hs
  · exact ⟨Nat.zero_le _, hs.dormant⟩

theorem place (s : State) (r : Request) : TimerMove s (s.place r) :=
  .same (by simp) (by simp) (by simp)

theorem decideDemand (s : State) : TimerMove s s.decideDemand :=
  .same (by simp) (by simp) (by simp)

theorem decideSince (s before : State) : TimerMove s (s.decideSince before) :=
  .same (by simp) (by simp) (by simp)

theorem afterWithdrawal (before s : State) : TimerMove s (State.afterWithdrawal before s) := by
  unfold State.afterWithdrawal
  split_ifs
  · exact .place _ _
  · exact .refl _
  · exact .decideDemand _
  · exact .refl _

/-! ### Moves between participation and power states -/

theorem endListen (s : State) : TimerMove s s.endListen := by
  refine .of_power (by simp) (by simp) fun hs => ?_
  rw [State.endListen_power]
  refine ⟨hs.idle, ?_⟩
  dsimp only
  split_ifs
  · exact Nat.zero_le _
  · exact hs.dormant

/-- LISTEN ends, and the participation unit is written (R60, R74, R77). -/
theorem of_endListen {s u : State} (hconfig : u.config = s.config) (hpower : u.power = s.power)
    (hpart : 0 < s.cfg.announcePeriod → s.part.InTime s.cfg.announcePeriod →
      u.part.InTime s.cfg.announcePeriod) : TimerMove s u.endListen :=
  (TimerMove.of_part hconfig hpower hpart).trans (.endListen u)

theorem enterGather (s : State) (stale : Bool) : TimerMove s (s.enterGather stale) :=
  .of_endListen (by simp) (by simp) fun hp hs =>
    ⟨fun _ => Nat.mul_pos Nat.two_pos hp, Nat.zero_le _, hs.horizon⟩

theorem enterMute (s : State) : TimerMove s s.enterMute :=
  .of_endListen (by simp) (by simp) fun _ hs => ⟨nofun, Nat.zero_le _, hs.horizon⟩

theorem enterHalted (s : State) (cause : HaltCause) : TimerMove s (s.enterHalted cause) :=
  .of_endListen (by simp) (by simp) fun _ hs => ⟨nofun, Nat.zero_le _, hs.horizon⟩

theorem ownError (s : State) : TimerMove s s.ownError := by
  obtain ⟨h, -⟩ | ⟨h, -⟩ := s.ownError_cases <;> rw [h]
  · refine TimerMove.trans ?_ (.enterMute _)
    exact .same rfl rfl rfl
  · exact .same rfl rfl rfl

theorem leaveMute (s : State) : TimerMove s s.leaveMute := by
  unfold State.leaveMute
  split_ifs
  · exact .enterGather s false
  · exact .refl s

theorem setLine (s : State) (l : LineInterface) : TimerMove s { s with line := l } :=
  .same rfl rfl rfl

theorem startPeriods (s : State) : TimerMove s s.startPeriods :=
  .same (by simp) (by simp) (by simp)

theorem endFrame (s : State) (p : LinePosition) : TimerMove s (s.endFrame p) := .same rfl rfl rfl

theorem count (s : State) (c : CounterName) (n : Nat) : TimerMove s (s.count c n) :=
  .same rfl rfl rfl

/-! ### The outcome of a frame (R70, R79) -/

theorem counted (s : State) (f : Frame) (own : Bool) : TimerMove s (s.counted f own) := by
  cases own
  · exact .same rfl rfl rfl
  · refine .of_part rfl rfl fun hp hs => ⟨hs.window, hs.announce, fun _ hn => ?_⟩
    obtain rfl := Horizon.counting.inj hn
    exact Nat.mul_pos Nat.two_pos hp

/-- The horizon expires, and notes are set (R39, R75). -/
theorem expireHorizon {s t : State} (hconfig : t.config = s.config) (hpower : t.power = s.power)
    (hstate : t.part.state = s.part.state) (hwindow : t.part.windowTimer = s.part.windowTimer)
    (hannounce : t.part.announceTimer = s.part.announceTimer)
    (hhorizon : t.part.horizon = .expired) : TimerMove s t :=
  .of_part hconfig hpower fun _ hs =>
    ⟨fun h => hwindow ▸ hs.window (hstate ▸ h), hannounce ▸ hs.announce,
      fun _ hn => absurd (hhorizon.symm.trans hn) nofun⟩

theorem activeEffects (s : State) (f : Frame) (own eager : Bool) (evicted : Nat) :
    TimerMove s (s.activeEffects f own eager evicted) := by
  unfold State.activeEffects
  dsimp only
  split
  case h_1 => split_ifs <;> exact .same rfl rfl rfl
  case h_2 =>
    split_ifs
    · unfold State.ownEvicted
      refine TimerMove.trans ?_ (.place _ _)
      exact .expireHorizon rfl rfl rfl rfl rfl rfl
    · exact .same rfl rfl rfl
  case h_3 => exact .refl s
  case h_4 => split_ifs <;> exact .same rfl rfl rfl
  case h_5 =>
    split_ifs
    · exact .of_part rfl rfl fun _ hs => ⟨hs.window, Nat.zero_le _, hs.horizon⟩
    · exact .refl s

theorem gatherEffects (s : State) (f : Frame) (n : Nat) : TimerMove s (s.gatherEffects f n) := by
  unfold State.gatherEffects
  dsimp only
  split
  case h_1 =>
    split_ifs
    · exact .expireHorizon rfl rfl rfl rfl rfl rfl
    · exact .same rfl rfl rfl
  case h_2 => split_ifs <;> exact .same rfl rfl rfl
  all_goals exact .refl s

theorem recogniseEviction (s : State) (f : Frame) : TimerMove s (s.recogniseEviction f) := by
  unfold State.recogniseEviction
  split
  case h_1 =>
    split_ifs
    · exact .expireHorizon rfl rfl rfl rfl rfl rfl
    · exact .refl s
  all_goals exact .refl s

theorem rejoinedIf (s : State) (own : Bool) : TimerMove s (s.rejoinedIf own) := by
  unfold State.rejoinedIf
  split_ifs
  · exact .of_part rfl rfl fun _ hs => ⟨nofun, Nat.zero_le _, hs.horizon⟩
  · exact .refl s

theorem adopt (s : State) (t : Table) (f : Frame) : TimerMove s (s.adopt t f) := .same rfl rfl rfl

theorem raiseIf (s : State) (c : Bool) (f : EventFlag) : TimerMove s (s.raiseIf c f) :=
  .same (by simp) (by simp) (by simp)

theorem applyActive (s : State) (f : Frame) (own : Bool) : TimerMove s (s.applyActive f own) :=
  ((TimerMove.adopt s _ f).trans (.raiseIf _ _ _)).trans (.activeEffects _ _ _ _ _)

theorem confirmActive (s : State) (f : Frame) (own : Bool) : TimerMove s (s.confirmActive f own) := by
  rw [State.confirmActive_eq]
  refine TimerMove.trans ?_ ((TimerMove.decideDemand _).trans (.react _))
  split_ifs
  · exact (TimerMove.counted s f own).trans (.applyActive _ _ _)
  · exact .counted s f own

theorem confirmGather (s : State) (f : Frame) (own : Bool) : TimerMove s (s.confirmGather f own) := by
  rw [State.confirmGather_eq]
  split_ifs
  · exact ((TimerMove.counted s f own).trans (.enterHalted _ _)).trans (.react _)
  · exact (((TimerMove.counted s f own).trans (.adopt _ _ f)).trans ((TimerMove.gatherEffects _ _ _).trans
      (.rejoinedIf _ own))).trans ((TimerMove.decideDemand _).trans (.react _))

theorem confirmMute (s : State) (f : Frame) (own : Bool) : TimerMove s (s.confirmMute f own) :=
  (TimerMove.counted s f own).trans ((TimerMove.recogniseEviction _ _).trans
    ((TimerMove.leaveMute _).trans (.react _)))

theorem windowAgain (s : State) : TimerMove s s.windowAgain :=
  .of_part rfl rfl fun hp hs => ⟨fun _ => Nat.mul_pos Nat.two_pos hp, hs.announce, hs.horizon⟩

theorem completeVoid (s : State) : TimerMove s s.completeVoid := .same rfl rfl rfl

end TimerMove

theorem execFrameConfirmed_timers {ack : Bit} {s t : State}
    (h : execFrameConfirmed ack s = .next t) : TimerMove s t := by
  unfold execFrameConfirmed at h
  split at h
  · obtain rfl := Host.Outcome.next.inj h
    exact .refl _
  split_ifs at h
  · obtain rfl := Host.Outcome.next.inj h
    exact .refl _
  split at h <;> obtain rfl := Host.Outcome.next.inj h
  · exact .confirmActive _ _ _
  · exact .confirmGather _ _ _
  · exact .confirmMute _ _ _
  all_goals exact .refl _

theorem execFrameVoid_timers {ack : Bit} {s t : State} (h : execFrameVoid ack s = .next t) :
    TimerMove s t := by
  have hvoid := TimerMove.completeVoid s
  unfold execFrameVoid at h
  split at h
  · obtain rfl := Host.Outcome.next.inj h
    exact .refl _
  split_ifs at h
  · obtain rfl := Host.Outcome.next.inj h
    exact .refl _
  dsimp only at h
  split at h <;> obtain rfl := Host.Outcome.next.inj h
  · split_ifs
    · exact hvoid.trans ((TimerMove.enterGather _ _).trans (.react _))
    · exact hvoid
  · split_ifs
    · exact hvoid.trans (.windowAgain _)
    · exact hvoid
  · exact hvoid.trans ((TimerMove.leaveMute _).trans (.react _))
  all_goals exact .refl _

theorem execFrameJammed_timers {s t : State} (h : execFrameJammed s = .next t) : TimerMove s t := by
  unfold execFrameJammed at h
  split at h
  · obtain rfl := Host.Outcome.next.inj h
    exact .refl _
  · split_ifs at h <;> obtain rfl := Host.Outcome.next.inj h
    · exact .refl _
    · exact .same rfl rfl rfl

/-! ### The tick (R60, R70, R79, R148, R153) -/

namespace TimerMove

theorem tickHorizon (s : State) : TimerMove s s.tickHorizon := by
  unfold State.tickHorizon
  split_ifs
  · refine .of_part rfl rfl fun _ hs => ⟨hs.window, hs.announce, fun n hn => ?_⟩
    dsimp only at hn
    unfold Horizon.ticked at hn
    split at hn
    · split_ifs at hn with hlt
      exact Horizon.counting.inj hn ▸ hlt
    · contradiction
  · exact .refl s

theorem closeWindow (s : State) : TimerMove s s.closeWindow := by
  unfold State.closeWindow
  refine TimerMove.trans ?_ (.place _ .rejoin)
  refine .of_part rfl rfl fun _ hs => ⟨fun h => ?_, hs.announce, hs.horizon⟩
  simp at h

theorem tickWindow (s : State) : TimerMove s s.tickWindow := by
  unfold State.tickWindow
  split_ifs with hwindow hlt
  · exact .of_part rfl rfl fun _ hs => ⟨fun _ => hlt, hs.announce, hs.horizon⟩
  · exact .closeWindow s
  · exact .refl s

theorem announceDue (s : State) : TimerMove s s.announceDue := by
  unfold State.announceDue
  refine TimerMove.trans ?_ (.place _ .plain)
  exact .of_part rfl rfl fun _ hs => ⟨hs.window, le_rfl, hs.horizon⟩

theorem tickAnnounce (s : State) : TimerMove s s.tickAnnounce := by
  unfold State.tickAnnounce
  split_ifs with hdue hlt
  · exact .of_part rfl rfl fun _ hs => ⟨hs.window, hlt.le, hs.horizon⟩
  · exact .announceDue s
  · exact .refl s

theorem tickIdle (s : State) : TimerMove s s.tickIdle := by
  unfold State.tickIdle
  split_ifs with hidle
  · refine .of_power rfl rfl fun hs => ⟨?_, hs.dormant⟩
    simp only [Bool.and_eq_true, decide_eq_true_eq] at hidle
    exact hidle.2
  · exact .refl s

theorem tickDormant (s : State) : TimerMove s s.tickDormant := by
  unfold State.tickDormant
  split_ifs with hlisten
  · refine .of_power rfl rfl fun hs => ⟨hs.idle, ?_⟩
    simp only [Bool.and_eq_true, decide_eq_true_eq] at hlisten
    exact hlisten.2
  · exact .refl s

end TimerMove

theorem execTick_timers {s t : State} (h : execTick s = .next t) : TimerMove s t := by
  refine .of_guard h fun _ => ?_
  have hages : TimerMove s s.tickAges := .same (by simp) (by simp) (by simp)
  have hsilence : ∀ u : State, TimerMove u u.lookForSilence := fun u =>
    .same (by simp) (by simp) (by simp)
  exact ((hages.trans (.tickHorizon _)).trans ((TimerMove.tickWindow _).trans
    (.tickAnnounce _))).trans (((TimerMove.tickIdle _).trans (.tickDormant _)).trans
      ((hsilence _).trans (.react _)))

/-! ### The equipment side, the line and the port -/

namespace TimerMove

theorem trip (s : State) : TimerMove s s.trip := by
  refine TimerMove.trans ?_ ((TimerMove.decideSince _ s).trans (.react _))
  exact .same rfl rfl rfl

theorem isenseResult (s : State) (cutSince : Bool) (code : Nat) :
    TimerMove s (s.isenseResult cutSince code) := by
  unfold State.isenseResult
  split_ifs
  case neg => exact .trip s
  all_goals exact .same rfl rfl rfl

theorem localSag (s : State) : TimerMove s s.localSag := by
  have hplaced : TimerMove s (if s.sense.sagHold.isSome then (s.raise .sag).count .localSags 1
      else ((s.raise .sag).count .localSags 1).place .sag) := by
    split_ifs
    · exact .same rfl rfl rfl
    · refine TimerMove.trans ?_ (.place _ _)
      exact .same rfl rfl rfl
  refine (hplaced.trans ?_).trans (.react _)
  exact .same rfl rfl rfl

theorem vsenseResult (s : State) (code : Nat) : TimerMove s (s.vsenseResult code) := by
  unfold State.vsenseResult
  split_ifs
  case neg => exact .localSag s
  all_goals exact .same rfl rfl rfl

end TimerMove

theorem execConversionReady_timers {code : ConverterCode} {s t : State}
    (h : execConversionReady code s = .next t) : TimerMove s t := by
  have hend : TimerMove s s.endConversion := .same rfl rfl rfl
  unfold execConversionReady at h
  split at h
  · split at h <;> obtain rfl := Host.Outcome.next.inj h
    · exact hend.trans (.isenseResult _ _ _)
    · exact hend.trans (.vsenseResult _ _)
    all_goals exact .refl _
  · obtain rfl := Host.Outcome.next.inj h
    exact .refl _

theorem execOnTimeElapsed_timers {s t : State} (h : execOnTimeElapsed s = .next t) :
    TimerMove s t := by
  unfold execOnTimeElapsed at h
  split at h
  · obtain rfl := Host.Outcome.next.inj h
    exact .refl _
  · exact .of_guard h fun _ => .same rfl rfl rfl

theorem TimerMove.leaveListen (s : State) : TimerMove s s.leaveListen := by
  unfold State.leaveListen
  split_ifs
  · refine (TimerMove.endListen s).trans (TimerMove.trans ?_ (.place _ .plain))
    exact .of_part rfl rfl fun _ hs => ⟨hs.window, hs.announce, hs.horizon⟩
  · exact .refl s

theorem execDemandSample_timers {demand : DemandLevel} {ninhHigh : Bool} {s t : State}
    (h : execDemandSample demand ninhHigh s = .next t) : TimerMove s t :=
  .of_guard h fun _ => by
    refine TimerMove.trans ?_
      ((TimerMove.leaveListen _).trans ((TimerMove.decideSince _ s).trans (.react _)))
    exact .same rfl rfl rfl

theorem execBitError_timers {bits : List Bit} {s t : State} (h : execBitError bits s = .next t) :
    TimerMove s t := by
  unfold execBitError at h
  split at h
  · split at h <;> obtain rfl := Host.Outcome.next.inj h
    · exact (TimerMove.endFrame s _).trans ((TimerMove.ownError _).trans (.react _))
    · exact .same rfl rfl rfl
    all_goals exact .refl _
  · obtain rfl := Host.Outcome.next.inj h
    exact .refl _

theorem execBitErrorWatchEnd_timers {bits : List Bit} {s t : State}
    (h : execBitErrorWatchEnd bits s = .next t) : TimerMove s t := by
  unfold execBitErrorWatchEnd at h
  split at h
  · split at h <;> obtain rfl := Host.Outcome.next.inj h
    · exact .same rfl rfl rfl
    · exact (TimerMove.endFrame s _).trans ((TimerMove.ownError _).trans (.react _))
    · exact .refl _
  · obtain rfl := Host.Outcome.next.inj h
    exact .refl _

theorem TimerMove.jamOrSeek (s : State) : TimerMove s s.jamOrSeek := by
  unfold State.jamOrSeek
  split_ifs <;> exact .same rfl rfl rfl

theorem execFrameReceived_timers {bits : List Bit} {s t : State}
    (h : execFrameReceived bits s = .next t) : TimerMove s t := by
  unfold execFrameReceived at h
  split at h
  · split at h
    · split at h <;> obtain rfl := Host.Outcome.next.inj h
      · exact (TimerMove.enterHalted s _).trans (.react _)
      · unfold State.driveSlot
        split_ifs <;> exact .same rfl rfl rfl
    · obtain rfl := Host.Outcome.next.inj h
      exact .refl _
  · obtain rfl := Host.Outcome.next.inj h
    exact .refl _

theorem execTailDominant_timers {field : TailField} {s t : State}
    (h : execTailDominant field s = .next t) : TimerMove s t := by
  unfold execTailDominant at h
  cases field <;> exact .of_guard h fun _ => .same rfl rfl rfl

/-! ### Every command -/

/-- What every command but those of a reset and of the load does to the timers. -/
theorem exec_timers {c : Instr} {s t : State} (hc : c.isStartUp = false) (h : exec c s = .next t) :
    TimerMove s t := by
  by_cases hm : c.isMonitor = true
  · obtain ⟨m, rfl⟩ := exec_of_isMonitor hm h
    exact .same rfl rfl rfl
  cases c
  case busIdle =>
    refine .of_guard h fun _ => ?_
    split_ifs
    · refine TimerMove.trans ?_ ((TimerMove.enterGather _ _).trans (.react _))
      exact .same rfl rfl rfl
    · exact .same rfl rfl rfl
  case startOpportunity =>
    refine .of_guard h fun _ => TimerMove.trans ?_ (.afterWithdrawal s _)
    split <;> exact .same rfl rfl rfl
  case arbitrationLost => exact .of_guard h fun _ => .same rfl rfl rfl
  case bitError => exact execBitError_timers h
  case bitErrorWatchEnd => exact execBitErrorWatchEnd_timers h
  case formatError =>
    exact .of_guard h fun _ =>
      (TimerMove.ownError s).trans ((TimerMove.jamOrSeek _).trans (.react _))
  case jamRecognised =>
    refine .of_guard h fun _ => ?_
    split_ifs
    · exact .jamOrSeek s
    · exact .same rfl rfl rfl
  case jamEnd => exact .of_guard h fun _ => .endFrame s _
  case tailDominant => exact execTailDominant_timers h
  case frameReceived => exact execFrameReceived_timers h
  case frameConfirmed ack => exact execFrameConfirmed_timers (ack := ack) h
  case frameVoid => exact execFrameVoid_timers h
  case frameJammed => exact execFrameJammed_timers h
  case tick => exact execTick_timers h
  case silenceLimitReached => exact .of_guard h fun _ => .same (by simp) (by simp) (by simp)
  case announceTimerExpiry => exact .of_guard h fun _ => .announceDue s
  case windowClose => exact .of_guard h fun _ => (TimerMove.closeWindow s).trans (.react _)
  case horizonExpiry =>
    refine .of_guard h fun _ => TimerMove.trans ?_ (.react _)
    exact .expireHorizon rfl rfl rfl rfl rfl rfl
  case idleTimerExpiry =>
    exact .of_guard h fun _ => .of_power rfl rfl fun hs => ⟨le_rfl, hs.dormant⟩
  case dormantTimerExpiry =>
    exact .of_guard h fun _ => .of_power rfl rfl fun hs => ⟨hs.idle, le_rfl⟩
  case listenEntry =>
    refine .of_guard h fun _ => .of_power (by simp) (by simp) fun _ => ?_
    simpa using (⟨Nat.zero_le _, Nat.zero_le _⟩ : PowerControl.InTime s.cfg
      { s.power with state := .listen, idleTimer := 0, dormantTimer := 0 })
  case dormantEntry =>
    refine .of_guard h fun _ => ⟨by simp, fun _ _ => ?_, fun _ => ?_⟩
    · simpa using (⟨nofun, Nat.zero_le _, nofun⟩ : ParticipationUnit.InTime s.cfg.announcePeriod
        s.enterDormant.part)
    · simpa using (⟨Nat.zero_le _, Nat.zero_le _⟩ : PowerControl.InTime s.cfg s.enterDormant.power)
  case wake => exact .of_guard h fun _ => .of_power rfl rfl fun hs => ⟨hs.idle, hs.dormant⟩
  case wakeClockReady =>
    refine .of_guard h fun _ => TimerMove.trans (TimerMove.trans ?_ (.startPeriods _)) (.react _)
    refine TimerMove.trans (TimerMove.trans ?_ (.enterGather _ false)) (.setLine _ _)
    exact .of_power rfl rfl fun hs => ⟨hs.idle, hs.dormant⟩
  case demandSample => exact execDemandSample_timers h
  case periodBoundary => exact .of_guard h fun _ => .same (by simp) (by simp) (by simp)
  case conversionReady => exact execConversionReady_timers h
  case lockoutExpiry =>
    refine .of_guard h fun _ => TimerMove.trans ?_ ((TimerMove.decideSince _ s).trans (.react _))
    exact .same rfl rfl rfl
  case sagHoldExpiry =>
    refine .of_guard h fun _ => TimerMove.trans ?_ (.react _)
    exact .same rfl rfl rfl
  case sofRead => exact .of_guard h fun _ => .same rfl rfl rfl
  case interframeEnd => exact .of_guard h fun _ => .endFrame s _
  case onTimeElapsed => exact execOnTimeElapsed_timers h
  all_goals contradiction

end Sys2Proof.Machine
end

section
/-! The Configuration Loader under the commands of the load (R159 to R164), and the settlement of O44. -/

namespace Sys2Proof.Machine

/-! ### What the steps of the load do to the loader (R161) -/

theorem State.failLoad_loader (s : State) :
    s.failLoad.loader = { s.loader with status := .failed, port := .idle } := by
  simp [State.failLoad]

theorem State.failAttempt_loader (s : State) :
    s.failAttempt.loader = if s.loader.attempts < 4 then { s.loader with port := .retryWait }
      else { s.loader with status := .failed, port := .idle } := by
  unfold State.failAttempt
  split_ifs
  · rfl
  · exact s.failLoad_loader

theorem State.settle_loader (s : State) (c : Settings) :
    (s.settle c).loader = { s.loader with status := .settled, port := .idle } := by
  simp [State.settle]

/-! ### The range of the loader (R158, R161) -/

/-- The count of attempts fits the phase of the load, and the buffer holds fifteen bytes. -/
structure Loader.InRange (l : Loader) : Prop where
  attempts : l.attempts ≤ 4
  waiting : l.status = .waiting → l.attempts = 0
  retry : l.port = .retryWait → l.attempts ≤ 3
  image : l.image.length = 15

/-- The buffer is filled with as many bytes as the bits spell. -/
theorem bytesOf_length (n : Nat) : ∀ bits : List Bit, bits.length = 8 * n → (bytesOf bits).length = n := by
  induction n with
  | zero =>
    intro bits h
    rw [List.length_eq_zero_iff.mp h]
    rfl
  | succ n ih =>
    intro bits h
    match bits, h with
    | _ :: _ :: _ :: _ :: _ :: _ :: _ :: _ :: rest, h =>
      rw [bytesOf, List.length_cons, ih rest]
      simp only [List.length_cons] at h
      omega

theorem Loader.InRange.failLoad {s : State} (h : s.loader.InRange) : s.failLoad.loader.InRange := by
  rw [State.failLoad_loader]
  exact ⟨h.attempts, nofun, nofun, h.image⟩

theorem Loader.InRange.failAttempt {s : State} (h : s.loader.InRange)
    (hs : s.loader.status = .reading) : s.failAttempt.loader.InRange := by
  rw [State.failAttempt_loader]
  split_ifs with hlt
  · exact ⟨h.attempts, fun hw => absurd (hs.symm.trans hw) (by decide), fun _ => Nat.le_of_lt_succ hlt,
      h.image⟩
  · exact ⟨h.attempts, nofun, nofun, h.image⟩

/-- An attempt begins where at most three have been counted. -/
theorem Loader.inRange_beginAttempt {s : State} (hn : s.loader.attempts ≤ 3)
    (hi : s.loader.image.length = 15) (hs : s.loader.status = .reading) (sda : SdaReading) :
    (s.beginAttempt sda).loader.InRange := by
  unfold State.beginAttempt
  dsimp only
  split_ifs
  · rw [State.failAttempt_loader]
    dsimp only
    split_ifs with hlt
    · exact ⟨Nat.succ_le_succ hn, fun hw => absurd (hs.symm.trans hw) (by decide),
        fun _ => Nat.le_of_lt_succ hlt, hi⟩
    · exact ⟨Nat.succ_le_succ hn, nofun, nofun, hi⟩
  · exact ⟨Nat.succ_le_succ hn, fun hw => absurd (hs.symm.trans hw) (by decide), nofun, hi⟩

theorem Loader.inRange_reset : Loader.reset.InRange :=
  ⟨Nat.zero_le _, fun _ => rfl, nofun, rfl⟩

/-- Every command keeps the range of the loader. -/
theorem exec_loader_inRange {c : Instr} {s t : State} (hs : s.loader.InRange)
    (h : exec c s = .next t) : t.loader.InRange := by
  by_cases hc : c.isStartUp = true
  case neg => rw [(exec_running (Bool.eq_false_iff.mpr hc) h).setup.loader]; exact hs
  cases c
  case reset cause =>
    unfold exec execReset at h
    dsimp only at h
    split at h <;> obtain rfl := Host.Outcome.next.inj h
    · exact hs
    · exact Loader.inRange_reset
  case resetEnd =>
    obtain ⟨-, rfl⟩ | rfl := next_of_guard h
    · exact Loader.inRange_reset
    · exact hs
  case clockReady =>
    obtain ⟨hg, rfl⟩ | rfl := next_of_guard h
    · simp only [Bool.and_eq_true, beq_iff_eq] at hg
      obtain ⟨-, hwaiting⟩ := hg
      have hzero := hs.waiting hwaiting
      refine Loader.inRange_beginAttempt ?_ ?_ ?_ _
      · simp [hzero]
      · exact hs.image
      · rfl
    · exact hs
  case attemptFailed =>
    obtain ⟨hg, rfl⟩ | rfl := next_of_guard h
    · simp only [State.attempting, Bool.and_eq_true, beq_iff_eq] at hg
      obtain ⟨⟨-, hreading⟩, -⟩ := hg
      refine Loader.InRange.failAttempt ?_ hreading
      exact ⟨hs.attempts, hs.waiting, hs.retry, hs.image⟩
    · exact hs
  case retryWaitExpiry =>
    obtain ⟨hg, rfl⟩ | rfl := next_of_guard h
    · simp only [Bool.and_eq_true, beq_iff_eq] at hg
      obtain ⟨⟨-, hreading⟩, hretry⟩ := hg
      exact Loader.inRange_beginAttempt (hs.retry hretry) hs.image hreading _
    · exact hs
  case attemptComplete bits =>
    obtain ⟨hg, rfl⟩ | rfl := next_of_guard h
    · simp only [State.attempting, Bool.and_eq_true, beq_iff_eq] at hg
      obtain ⟨⟨⟨-, hreading⟩, hattempt⟩, hlength⟩ := hg
      have hread : (s.readImage (bytesOf bits)).loader.InRange :=
        ⟨hs.attempts, hs.waiting, hs.retry, bytesOf_length 15 bits hlength⟩
      split_ifs
      · rw [State.settle_loader]
        exact ⟨hread.attempts, nofun, nofun, hread.image⟩
      · exact hread.failLoad
    · exact hs
  all_goals contradiction

/-! ### The law of the counts -/

theorem CountLaw.rules {s : State} (h : CountLaw s) : RangeRules s where
  posture := ⟨h.listen, h.start, h.asleep⟩
  fault := ⟨h.fault, h.faultBelow⟩
  patience := ⟨h.patience, fun h0 => (h.patienceZero h0).1⟩
  counters := h.counters
  table a := ⟨h.ages a, (h.wants a).1, (h.wants a).2⟩
  frames := h.frames
  highCount := h.highCount
  sense := ⟨h.blanking, h.overdrawRun, h.sagRun, h.schedule⟩

theorem CountLaw.keen {s : State} (h : CountLaw s) : s.Keen := fun h0 => (h.patienceZero h0).2

theorem CountLaw.loaderInRange {s : State} (h : CountLaw s) : s.loader.InRange :=
  ⟨h.attempts, h.waiting, h.retry, h.image⟩

theorem RangeRules.countLaw {s : State} (h : RangeRules s) (hkeen : s.Keen) (hl : LoadLaw s)
    (hloader : s.loader.InRange) : CountLaw s where
  load := hl
  listen := h.posture.listen
  start := h.posture.start
  asleep := h.posture.asleep
  fault := h.fault.le
  faultBelow := h.fault.below
  patience := h.patience.le
  patienceZero h0 := ⟨h.patience.active h0, hkeen h0⟩
  counters := h.counters
  ages a := (h.table a).age
  wants a := ⟨(h.table a).floor, (h.table a).want⟩
  frames := h.frames
  highCount := h.highCount
  blanking := h.sense.blanking
  overdrawRun := h.sense.overdrawRun
  sagRun := h.sense.sagRun
  schedule := h.sense.schedule
  attempts := hloader.attempts
  waiting := hloader.waiting
  retry := hloader.retry
  image := hloader.image

theorem CountLaw.exec {c : Instr} {s t : State} (hs : CountLaw s) (h : Machine.exec c s = .next t) :
    CountLaw t := by
  have hmove := hs.load.exec_range h
  exact (hmove.kept hs.rules).countLaw (hmove.keen hs.keen) (hs.load.exec h)
    (exec_loader_inRange hs.loaderInRange h)

/-! ### The law of the timers -/

/-- No timer counted in ticks runs: so an unloaded station stands (R158). -/
structure State.Untimed (s : State) : Prop where
  window : s.part.state ≠ .gather .window
  announce : s.part.announceTimer = 0
  horizon : s.part.horizon = .expired
  idle : s.power.idleTimer = 0
  dormant : s.power.dormantTimer = 0

namespace State.Untimed

theorem timerLaw {s : State} (h : s.Untimed) (hl : LoadLaw s) : TimerLaw s where
  load := hl
  window hw := absurd hw h.window
  announce := h.announce ▸ Nat.zero_le _
  horizon _ hn := absurd (h.horizon.symm.trans hn) nofun
  idle := h.idle ▸ Nat.zero_le _
  dormant := h.dormant ▸ Nat.zero_le _

theorem react {s : State} (h : s.Untimed) : s.react.Untimed := by
  obtain hpower | hpower := s.react_power_cases
  all_goals constructor <;> simp [hpower, h.window, h.announce, h.horizon, h.idle, h.dormant]

theorem enterHalted {s : State} (h : s.Untimed) (cause : HaltCause) : (s.enterHalted cause).Untimed := by
  have hpart := s.enterHalted_part cause
  have hpower : (s.enterHalted cause).power.idleTimer = 0 ∧
      (s.enterHalted cause).power.dormantTimer = 0 := by
    simp [State.enterHalted, h.idle, h.dormant]
  constructor <;> simp [hpart, hpower, h.horizon]

theorem failLoad {s : State} (h : s.Untimed) : s.failLoad.Untimed := by
  refine react (enterHalted ?_ .config)
  exact ⟨h.window, h.announce, h.horizon, h.idle, h.dormant⟩

theorem failAttempt {s : State} (h : s.Untimed) : s.failAttempt.Untimed := by
  unfold State.failAttempt
  split_ifs
  · exact ⟨h.window, h.announce, h.horizon, h.idle, h.dormant⟩
  · exact h.failLoad

theorem beginAttempt {s : State} (h : s.Untimed) (sda : SdaReading) : (s.beginAttempt sda).Untimed := by
  unfold State.beginAttempt
  dsimp only
  split_ifs
  · exact failAttempt ⟨h.window, h.announce, h.horizon, h.idle, h.dormant⟩
  · exact ⟨h.window, h.announce, h.horizon, h.idle, h.dormant⟩

theorem settle {s : State} (h : s.Untimed) (c : Settings) : (s.settle c).Untimed := by
  unfold State.settle
  refine react ?_
  constructor <;> simp [h.window, h.announce, h.horizon, h.idle, h.dormant]

theorem resetBlocks (s : State) (rst : ResetUnit) : (s.resetBlocks rst).Untimed :=
  ⟨nofun, rfl, rfl, rfl, rfl⟩

end State.Untimed

/-- While the configuration is unloaded every delay is 0, and with it every timer. -/
theorem TimerLaw.untimed {s : State} (h : TimerLaw s) (hn : s.config = none) : s.Untimed := by
  have hcfg : s.cfg = Settings.unloaded := by rw [State.cfg, hn]; rfl
  have hannounce := h.announce
  have hidle := h.idle
  have hdormant := h.dormant
  simp only [State.idleTicks, State.dormantTicks, hcfg, Settings.unloaded] at hannounce hidle hdormant
  refine ⟨?_, Nat.le_zero.mp hannounce, ?_, Nat.le_zero.mp hidle, Nat.le_zero.mp hdormant⟩
  · obtain ⟨hstart, -⟩ | ⟨hhalted, -⟩ := h.load.beforeSettling hn
    · simp [hstart]
    · simp [hhalted]
  · cases hhorizon : s.part.horizon with
    | expired => rfl
    | counting n =>
      have hlt := h.horizon n hhorizon
      rw [hcfg] at hlt
      exact absurd hlt (Nat.not_lt_zero n)

/-- The commands of a reset and of the load leave the timers as they are, or at 0. -/
theorem TimerLaw.exec_startUp {c : Instr} {s t : State} (hs : TimerLaw s) (hc : c.isStartUp = true)
    (h : Machine.exec c s = .next t) : TimerLaw t := by
  have hload := hs.load.exec h
  have hloading : s.loader.status = .waiting ∨ s.loader.status = .reading → s.Untimed := fun hl =>
    hs.untimed (hs.load.loading hl).1.config
  cases c
  case reset cause =>
    unfold Machine.exec execReset at h
    dsimp only at h
    split at h <;> obtain rfl := Host.Outcome.next.inj h
    · exact ⟨hload, hs.window, hs.announce, hs.horizon, hs.idle, hs.dormant⟩
    · exact (State.Untimed.resetBlocks _ _).timerLaw hload
  case resetEnd =>
    obtain ⟨-, rfl⟩ | rfl := next_of_guard h
    · exact (State.Untimed.resetBlocks _ _).timerLaw hload
    · exact hs
  case clockReady =>
    obtain ⟨hg, rfl⟩ | rfl := next_of_guard h
    · simp only [Bool.and_eq_true, beq_iff_eq] at hg
      have hu := hloading (.inl hg.2)
      refine (State.Untimed.beginAttempt ?_ _).timerLaw hload
      exact ⟨hu.window, hu.announce, hu.horizon, hu.idle, hu.dormant⟩
    · exact hs
  case attemptFailed =>
    obtain ⟨hg, rfl⟩ | rfl := next_of_guard h
    · simp only [State.attempting, Bool.and_eq_true, beq_iff_eq] at hg
      obtain ⟨⟨-, hreading⟩, -⟩ := hg
      have hu := hloading (.inr hreading)
      refine (State.Untimed.failAttempt ?_).timerLaw hload
      exact ⟨hu.window, hu.announce, hu.horizon, hu.idle, hu.dormant⟩
    · exact hs
  case retryWaitExpiry =>
    obtain ⟨hg, rfl⟩ | rfl := next_of_guard h
    · simp only [Bool.and_eq_true, beq_iff_eq] at hg
      obtain ⟨⟨-, hreading⟩, -⟩ := hg
      exact ((hloading (.inr hreading)).beginAttempt _).timerLaw hload
    · exact hs
  case attemptComplete bits =>
    obtain ⟨hg, rfl⟩ | rfl := next_of_guard h
    · simp only [State.attempting, Bool.and_eq_true, beq_iff_eq] at hg
      obtain ⟨⟨⟨-, hreading⟩, -⟩, -⟩ := hg
      have hu := hloading (.inr hreading)
      have hread : (s.readImage (bytesOf bits)).Untimed :=
        ⟨hu.window, hu.announce, hu.horizon, hu.idle, hu.dormant⟩
      refine State.Untimed.timerLaw ?_ hload
      split_ifs
      · exact hread.settle _
      · exact hread.failLoad
    · exact hs
  all_goals contradiction

/-- The announce period of a settled station is 5 or more (R162). -/
theorem LoadLaw.announcePeriod_pos {s : State} (hl : LoadLaw s) (hs : s.config ≠ none) :
    0 < s.cfg.announcePeriod := by
  obtain ⟨c, hc⟩ := Option.ne_none_iff_exists'.mp hs
  obtain ⟨-, hranges, -⟩ := hl.settled c hc
  have hcfg : s.cfg = c := by rw [State.cfg, hc]; rfl
  simp only [rangesPass, Bool.and_eq_true, decide_eq_true_eq, and_assoc] at hranges
  obtain ⟨-, -, -, -, hperiod, -⟩ := hranges
  exact hcfg ▸ lt_of_lt_of_le (by decide) hperiod

/-- While the configuration is unloaded no other command reaches a timer. -/
theorem TimerLaw.exec_unloaded {c : Instr} {s t : State} (hs : TimerLaw s) (hn : s.config = none)
    (hc : c.isStartUp = false) (h : Machine.exec c s = .next t) : TimerLaw t := by
  have hload := hs.load.exec h
  by_cases hm : c.isMonitor = true
  · obtain ⟨m, rfl⟩ := exec_of_isMonitor hm h
    exact ⟨hload, hs.window, hs.announce, hs.horizon, hs.idle, hs.dormant⟩
  · rw [exec_of_unloaded (hs.load.blocks hn) (hs.load.beforeSettling hn) hc
      (Bool.eq_false_iff.mpr hm) h]
    exact hs

theorem TimerLaw.exec {c : Instr} {s t : State} (hs : TimerLaw s) (h : Machine.exec c s = .next t) :
    TimerLaw t := by
  by_cases hc : c.isStartUp = true
  · exact hs.exec_startUp hc h
  rw [Bool.not_eq_true] at hc
  by_cases hn : s.config = none
  · exact hs.exec_unloaded hn hc h
  have hmove := exec_timers hc h
  have hpart := hmove.part (hs.load.announcePeriod_pos hn) ⟨hs.window, hs.announce, hs.horizon⟩
  have hpower := hmove.power ⟨hs.idle, hs.dormant⟩
  rw [← hmove.cfg] at hpart hpower
  exact ⟨hs.load.exec h, hpart.window, hpart.announce, hpart.horizon, hpower.idle, hpower.dormant⟩

/-! ### The step -/

/-- What every command keeps, and what does not speak of the queue, a step keeps. -/
theorem step_keeps {P : State → Prop} (hpending : ∀ s rest, P s → P { s with pending := rest })
    (hexec : ∀ c s t, P s → exec c s = .next t → P t) {s t : State} (hs : P s)
    (h : step s = .next t) : P t := by
  unfold step at h
  split at h
  case h_1 =>
    obtain rfl := Host.Outcome.next.inj h
    exact hs
  case h_2 rest _ => exact hexec _ _ _ (hpending s rest hs) h

theorem LoadLaw.setPending {s : State} (h : LoadLaw s) (rest : List Instr) :
    LoadLaw { s with pending := rest } := ⟨h.unloaded, h.halted, h.settled⟩

theorem CountLaw.setPending {s : State} (h : CountLaw s) (rest : List Instr) :
    CountLaw { s with pending := rest } :=
  { h with load := h.load.setPending rest }

theorem TimerLaw.setPending {s : State} (h : TimerLaw s) (rest : List Instr) :
    TimerLaw { s with pending := rest } :=
  { h with load := h.load.setPending rest }

/-- Settles O44: every command keeps the ranges of the counts, by way of what it may write of each
unit, and the limits of the timers, which no command carries further than one tick. -/
theorem countsAndTimersStayInRange : Obligations.CountsAndTimersStayInRange :=
  ⟨fun _ _ hs h => step_keeps (fun _ rest hs => hs.setPending rest) (fun _ _ _ hs h => hs.exec h) hs h,
    fun _ _ hs h => step_keeps (fun _ rest hs => hs.setPending rest) (fun _ _ _ hs h => hs.exec h) hs h⟩

/-- Settles O40: the load leaves the blocks at their values after reset until settlement, and hands
over values that have passed their checks. -/
theorem unloadedStationStandsStill : Obligations.UnloadedStationStandsStill := fun _ _ hs h =>
  step_keeps (fun _ rest hs => hs.setPending rest) (fun _ _ _ hs h => hs.exec h) hs h

end Sys2Proof.Machine
end

section
/-! The queue and the step, reset, and the laws at reset (O1 to O4, O39). -/

namespace Sys2Proof.Machine

/-! ### No command stops the station (log 32) -/

theorem exists_next_of_guard {p : Prop} [Decidable p] (u s : State) :
    ∃ t, (if p then .next u else .next s : Host.Outcome State Fault Refusal) = .next t := by
  split_ifs <;> exact ⟨_, rfl⟩

theorem exec_total (c : Instr) (s : State) : ∃ t, exec c s = .next t := by
  cases c
  case reset =>
    unfold exec execReset
    dsimp only
    split <;> exact ⟨_, rfl⟩
  case bitError =>
    unfold exec execBitError
    dsimp only
    split
    · split <;> exact ⟨_, rfl⟩
    · exact ⟨_, rfl⟩
  case bitErrorWatchEnd =>
    unfold exec execBitErrorWatchEnd
    dsimp only
    split
    · split <;> exact ⟨_, rfl⟩
    · exact ⟨_, rfl⟩
  case tailDominant field =>
    unfold exec execTailDominant
    cases field <;> exact exists_next_of_guard _ _
  case frameReceived =>
    unfold exec execFrameReceived
    dsimp only
    split
    · split
      · split <;> exact ⟨_, rfl⟩
      · exact ⟨_, rfl⟩
    · exact ⟨_, rfl⟩
  case frameConfirmed =>
    unfold exec execFrameConfirmed
    dsimp only
    split
    · exact ⟨_, rfl⟩
    · split_ifs
      · exact ⟨_, rfl⟩
      · split <;> exact ⟨_, rfl⟩
  case frameVoid =>
    unfold exec execFrameVoid
    dsimp only
    split
    · exact ⟨_, rfl⟩
    · split
      · exact ⟨_, rfl⟩
      · split <;> exact ⟨_, rfl⟩
  case frameJammed =>
    unfold exec execFrameJammed
    dsimp only
    split
    · exact ⟨_, rfl⟩
    · split_ifs <;> exact ⟨_, rfl⟩
  case conversionReady =>
    unfold exec execConversionReady
    dsimp only
    split
    · split <;> exact ⟨_, rfl⟩
    · exact ⟨_, rfl⟩
  case onTimeElapsed =>
    unfold exec execOnTimeElapsed
    dsimp only
    split
    · exact ⟨_, rfl⟩
    · exact exists_next_of_guard _ _
  case ncsRise => exact ⟨_, rfl⟩
  case sckEdge =>
    unfold exec execSckEdge
    dsimp only
    split
    · exact ⟨_, rfl⟩
    · exact exists_next_of_guard _ _
  all_goals exact exists_next_of_guard _ _

/-! ### The queue -/

theorem State.failLoad_pending (s : State) : s.failLoad.pending = s.pending := by
  simp [State.failLoad]

theorem State.failAttempt_pending (s : State) : s.failAttempt.pending = s.pending := by
  unfold State.failAttempt
  split_ifs
  · rfl
  · exact s.failLoad_pending

theorem State.beginAttempt_pending (s : State) (sda : SdaReading) :
    (s.beginAttempt sda).pending = s.pending := by
  unfold State.beginAttempt
  dsimp only
  split_ifs
  · exact State.failAttempt_pending _
  · rfl

theorem State.settle_pending (s : State) (c : Settings) : (s.settle c).pending = s.pending := by
  simp [State.settle]

/-- The commands of a reset and of the load leave the queue as it is. -/
theorem exec_startUp_pending {c : Instr} {s t : State} (hc : c.isStartUp = true)
    (h : exec c s = .next t) : t.pending = s.pending := by
  cases c
  case reset =>
    unfold exec execReset at h
    dsimp only at h
    split at h <;> obtain rfl := Host.Outcome.next.inj h <;> rfl
  case resetEnd => obtain ⟨-, rfl⟩ | rfl := next_of_guard h <;> rfl
  case clockReady =>
    obtain ⟨-, rfl⟩ | rfl := next_of_guard h
    · exact State.beginAttempt_pending _ _
    · rfl
  case attemptFailed =>
    obtain ⟨-, rfl⟩ | rfl := next_of_guard h
    · exact State.failAttempt_pending _
    · rfl
  case retryWaitExpiry =>
    obtain ⟨-, rfl⟩ | rfl := next_of_guard h
    · exact State.beginAttempt_pending _ _
    · rfl
  case attemptComplete =>
    obtain ⟨-, rfl⟩ | rfl := next_of_guard h
    · split_ifs
      · exact State.settle_pending _ _
      · exact State.failLoad_pending _
    · rfl
  all_goals contradiction

/-- Settles O1: so `step` is defined. -/
theorem stepTakesTheFrontCommand : Obligations.StepTakesTheFrontCommand := by
  intro c rest s h
  unfold step
  rw [h]

/-- Settles O2: every branch of every command answers a next state, and none writes the queue. -/
theorem noCommandStopsOrTouchesTheQueue : Obligations.NoCommandStopsOrTouchesTheQueue := by
  intro c s
  obtain ⟨t, h⟩ := exec_total c s
  refine ⟨t, h, ?_⟩
  by_cases hc : c.isStartUp = true
  · exact exec_startUp_pending hc h
  · exact (exec_running (Bool.eq_false_iff.mpr hc) h).setup.pending

/-! ### Reset (R157, R158) -/

/-- Settles O3: the values are those of the definitions. -/
theorem resetLeavesTheStatedValues : Obligations.ResetLeavesTheStatedValues :=
  ⟨⟨rfl, rfl, rfl, rfl, rfl, rfl⟩, ⟨rfl, rfl, rfl, rfl⟩, ⟨Table.at_allAbsent, rfl⟩,
    ⟨rfl, rfl, rfl, rfl⟩, ⟨rfl, rfl, rfl, rfl, rfl, rfl⟩, ⟨rfl, rfl, rfl, rfl⟩,
    ⟨rfl, rfl, rfl, rfl, rfl, rfl, rfl, rfl⟩, ⟨rfl, rfl, rfl, rfl, rfl⟩, ⟨rfl, rfl, rfl, rfl, rfl⟩⟩

/-- Settles O4: RESET and RESET_END by whether a reset is in force. -/
theorem resetHoldsTheStationAndEnds : Obligations.ResetHoldsTheStationAndEnds := by
  refine ⟨fun cause s hfree => ?_, fun cause s hforce => ?_, fun s hforce => ?_, fun s hforce => ?_⟩
  · simp [exec, execReset, hfree, State.resetBlocks]
  · simp [exec, execReset, hforce]
  · simp [State.attn, hforce]
  · simp [exec, execResetEnd, hforce, State.resetBlocks]

/-- A station whose blocks are reset from the reset itself is the reset. -/
theorem State.resetBlocks_reset : State.reset.resetBlocks State.reset.rst = State.reset := rfl

/-- Settles O39: each law at the values after reset, where nothing is held, driven or counted. -/
theorem lawsHoldAtReset : Obligations.LawsHoldAtReset := by
  have hload : LoadLaw State.reset := LoadLaw.resetBlocks State.reset State.reset.rst
  have huntimed : State.reset.Untimed := State.Untimed.resetBlocks State.reset State.reset.rst
  have hrules : RangeRules State.reset := RangeRules.resetBlocks State.reset State.reset.rst
  refine ⟨hload, ⟨hload, .allAbsent, ?_⟩, ⟨hload, Nat.zero_le _, nofun⟩, ?_, ?_, huntimed.timerLaw hload⟩
  · rw [show State.reset.table = Table.allAbsent from rfl, Table.held_allAbsent]
    exact Nat.zero_le _
  · exact (hload.lineRules_of_unloaded rfl).lineLaw hload nofun
  · exact hrules.countLaw (fun hpatience => absurd rfl hpatience) hload Loader.inRange_reset

end Sys2Proof.Machine
end

section
/-! What entering GATHER, MUTE and HALTED does to a station (R60, R74, R77, R100, R101), stated once for
every command that does it. -/

namespace Sys2Proof.Machine

/-- `u` stands as `s` did but for the line, the loader, the counters and the drive: nothing else is
written before or after an entry. -/
structure SameStation (s u : State) : Prop where
  part : u.part = s.part
  table : u.table = s.table
  lineCount : u.lineCount = s.lineCount
  demand : u.demand = s.demand
  lockout : u.sense.lockout = s.sense.lockout
  sagHold : u.sense.sagHold = s.sense.sagHold
  power : u.power.state = s.power.state
  flags : u.monitor.flags = s.monitor.flags

/-- A reaction leaves patience at 0 where it is 0. -/
theorem State.react_demand_of_zero {v : State} {d : DemandUnit}
    (hv : v.demand = { d with patience := 0 }) : v.react.demand = { d with patience := 0 } := by
  rw [State.react_demand, hv]
  simp

namespace SameStation

variable {s u v : State}

theorem refl (s : State) : SameStation s s := ⟨rfl, rfl, rfl, rfl, rfl, rfl, rfl, rfl⟩

theorem woken (h : SameStation s u) : u.power.woken = s.power.woken := by
  rw [PowerControl.woken, PowerControl.woken, h.power]

/-- HALTED entry (R77, R103). -/
theorem entersHalted (h : SameStation s u) (hdrive : HoldsOutput s u)
    (hfault : u.line.faultCount = s.line.faultCount) (cause : HaltCause) :
    EntersHalted cause s (u.enterHalted cause).react := by
  have hpart := u.enterHalted_part cause
  have hline := u.enterHalted_line cause
  have htarget := u.enterHalted_target cause
  constructor
  case state => simp [hpart]
  case windowTimer => simp [hpart, h.part]
  case announceTimer => simp [hpart]
  case horizon => simp [hpart, h.part]
  case position => simp [hline]
  case role => simp [hline]
  case drive => simp [hline]
  case fault => simp [hline, hfault]
  case outbox => simp [hline]
  case demand => exact State.react_demand_of_zero (h.demand ▸ u.enterHalted_demand cause)
  case held => simp [State.enterHalted_lockout, State.enterHalted_sagHold, h.lockout, h.sagHold]
  case flags => simp [State.enterHalted_monitor, h.flags]
  case power => rw [State.react_power_state, State.enterHalted_power_state, h.woken]
  case output => rw [State.react_output, htarget, Nat.min_zero]
  case gate =>
    intro hpositive
    obtain ⟨hoff, hhigh⟩ := hdrive.trans (.enterHalted u cause)
    refine Bool.eq_false_iff.mpr fun hgate => ?_
    rw [State.react_gate, Bool.and_eq_true, decide_eq_true_eq, htarget, hoff] at hgate
    obtain ⟨hgate, hzero⟩ := hgate
    exact absurd ((hhigh hgate).elim hpositive id) (Nat.not_lt.mpr hzero)

/-- GATHER entry (R60): what is written after it before the reaction is the line and the drive alone. -/
theorem entersGather (h : SameStation s u) (hown : u.own = s.own) {stale : Bool}
    (hv : SameStation (u.enterGather stale) v)
    (houtbox : v.line.outbox = (u.enterGather stale).line.outbox) : EntersGather stale s v.react := by
  have hpart := u.enterGather_part stale
  constructor
  case phase => simp [hv.part, hpart]
  case windowTimer => simp [hv.part, hpart]
  case announceTimer => simp [hv.part, hpart]
  case reannounce => simp [hv.part, hpart]
  case evicted => simp [hv.part, hpart]
  case horizon => simp [hv.part, hpart, h.part]
  case peers =>
    intro a ha
    rw [State.react_table, hv.table, State.enterGather_table, Table.at_forGather, hown, if_neg ha]
  case own =>
    rw [State.react_table, hv.table, State.enterGather_table, Table.at_forGather, hown, if_pos rfl,
      h.part, h.table]
  case lineCount => simp [hv.lineCount, State.enterGather_lineCount]
  case outbox => simp [houtbox, State.enterGather_line]
  case demand =>
    exact State.react_demand_of_zero (hv.demand.trans (h.demand ▸ u.enterGather_demand stale))
  case held =>
    simp [hv.lockout, hv.sagHold, State.enterGather_lockout, State.enterGather_sagHold, h.lockout,
      h.sagHold]
  case flags =>
    rw [State.react_monitor, hv.flags, State.enterGather_monitor, State.raiseIf]
    split_ifs <;> simp [h.flags]
  case power => rw [State.react_power_state, hv.power, State.enterGather_power_state, h.woken]
  case output => exact State.react_output_le_target _

/-- MUTE entry (R74), and the line, the counters and the drive written after it. -/
theorem entersMute (h : SameStation s u) (hv : SameStation u.enterMute v)
    (houtbox : v.line.outbox = u.enterMute.line.outbox) : EntersMute s v.react := by
  have hpart := u.enterMute_part
  constructor
  case state => simp [hv.part, hpart]
  case windowTimer => simp [hv.part, hpart]
  case announceTimer => simp [hv.part, hpart]
  case reannounce => simp [hv.part, hpart]
  case horizon => simp [hv.part, hpart, h.part]
  case table => exact ⟨by simp [hv.table, h.table], by simp [hv.lineCount, h.lineCount]⟩
  case outbox => simp [houtbox, State.enterMute_line]
  case demand => exact State.react_demand_of_zero (hv.demand.trans (h.demand ▸ u.enterMute_demand))
  case held =>
    simp [hv.lockout, hv.sagHold, State.enterMute_lockout, State.enterMute_sagHold, h.lockout,
      h.sagHold]
  case flags => simp [hv.flags, State.enterMute_monitor, h.flags]
  case power => rw [State.react_power_state, hv.power, State.enterMute_power_state, h.woken]
  case output => exact State.react_output_le_target _

/-- An own error of a station whose fault count and outbox are those of `s`, and the line written after
it (R100, R101). -/
theorem takesOwnError (h : SameStation s u) (hfault : u.line.faultCount = s.line.faultCount)
    (houtbox : u.line.outbox = s.line.outbox) (hv : SameStation u.ownError v)
    (hvfault : v.line.faultCount = u.ownError.line.faultCount)
    (hvoutbox : v.line.outbox = u.ownError.line.outbox) : TakesOwnError s v.react := by
  have hcount : u.ownError.line.faultCount = min 31 (s.line.faultCount + 2) := by
    rw [State.ownError_line, hfault]
  have hmute : SameStation s { u with line := { u.line with
      faultCount := min 31 (u.line.faultCount + 2) } } :=
    ⟨h.part, h.table, h.lineCount, h.demand, h.lockout, h.sagHold, h.power, h.flags⟩
  refine ⟨by rw [State.react_line, hvfault, hcount], fun hstate hlimit => ?_, fun hstays => ?_⟩
  · obtain ⟨hmuted, -⟩ | ⟨-, hbelow⟩ := u.ownError_cases
    · rw [hmuted] at hv hvoutbox
      exact hmute.entersMute hv hvoutbox
    · rw [h.part, hfault] at hbelow
      exact absurd ⟨hstate, hlimit⟩ hbelow
  · obtain ⟨-, hlimit, hstate⟩ | ⟨hcounted, -⟩ := u.ownError_cases
    · rw [h.part] at hstate
      rw [hfault] at hlimit
      exact absurd ⟨hstate, hlimit⟩ hstays
    · rw [hcounted] at hv hvoutbox
      exact ⟨by rw [State.react_part, hv.part, hmute.part],
        by rw [State.react_power_state, hv.power, hmute.power],
        by rw [State.react_line, hvoutbox]; exact houtbox,
        by rw [State.react_monitor, hv.flags, hmute.flags]⟩

end SameStation

end Sys2Proof.Machine
end

section
/-! The load (O5 to O8): the attempts, the image and its checks (R159 to R164). -/

namespace Sys2Proof.Machine

/-! ### A failed load (R164) -/

/-- A load that fails from a station that stood as `s` but for its loader. -/
theorem SameStation.failLoad {s u : State} (h : SameStation s u) (hdrive : u.drive = s.drive)
    (hfault : u.line.faultCount = s.line.faultCount) : EntersHalted .config s u.failLoad := by
  have hloader : SameStation s { u with loader := { u.loader with status := .failed, port := .idle } } :=
    ⟨h.part, h.table, h.lineCount, h.demand, h.lockout, h.sagHold, h.power, h.flags⟩
  exact hloader.entersHalted (.of_drive hdrive) hfault .config

theorem SameTable.failLoad {s u : State} (h : SameTable s u) : SameTable s u.failLoad :=
  ⟨by simp [State.failLoad, h.table], by simp [State.failLoad, h.lineCount]⟩

theorem State.failLoad_clockReady (s : State) : s.failLoad.power.clockReady = s.power.clockReady := by
  simp [State.failLoad, State.enterHalted]

/-! ### An attempt (R160, R161) -/

theorem State.failAttempt_of_lt {s : State} (h : s.loader.attempts < 4) :
    s.failAttempt = { s with loader := { s.loader with port := .retryWait } } := if_pos h

theorem State.failAttempt_of_le {s : State} (h : 4 ≤ s.loader.attempts) : s.failAttempt = s.failLoad :=
  if_neg (Nat.not_lt.mpr h)

/-- The port is clear: the start condition is sent. -/
theorem State.beginAttempt_of_clear (s : State) {sda : SdaReading} (h : sda ≠ .stuckLow) :
    s.beginAttempt sda = { s with loader := { s.loader with
      attempts := s.loader.attempts + 1, port := .attempt
      wire := clearingLevels sda ++ startCondition } } := if_neg h

/-- SDA stays low: the attempt fails at once. -/
theorem State.beginAttempt_stuckLow (s : State) :
    s.beginAttempt .stuckLow = State.failAttempt { s with loader := { s.loader with
      attempts := s.loader.attempts + 1, wire := clearingLevels .stuckLow } } := rfl

/-! ### What the port shows before an attempt (R161) -/

/-- SDA reads low, SCL high: where the clearing begins and where a pulse without effect ends. -/
def PortLevels.heldLow : PortLevels := { scl := true, station := true, memory := false }

/-- Each pulse that leaves SDA low is one rise of SCL, and leaves the levels as they were. -/
theorem portEvents_clearingPulses_append (n : Nat) (ys : List PortLevels) :
    portEvents .heldLow ((List.replicate n (clearingPulse false)).flatten ++ ys) =
      List.replicate n (.rise true false) ++ portEvents .heldLow ys := by
  induction n with
  | zero => rfl
  | succ n ih =>
    have hpulse : portEvents .heldLow (clearingPulse false) = [.rise true false] := by decide
    rw [List.replicate_succ, List.flatten_cons, List.append_assoc, portEvents_append, hpulse,
      show (clearingPulse false).getLastD .heldLow = .heldLow from rfl, ih]
    rfl

/-- The last pulse, in which SDA reads high, a stop condition, and the start condition. -/
theorem portEvents_cleared :
    portEvents .heldLow (clearingPulse true ++ { PortLevels.released with scl := false } ::
      stopCondition ++ startCondition) =
    [.rise true true, .rise false true, .stop, .start] := by decide

/-- Settles O5: the first attempt, by what SDA reads. -/
theorem clockReadyBeginsTheLoad : Obligations.ClockReadyBeginsTheLoad := by
  refine ⟨fun address cls sda s hfree hstopped hwaiting => ?_, by decide, fun n => ?_, ?_⟩
  · have hexec (sda : SdaReading) : exec (.clockReady address cls sda) s = .next (State.beginAttempt
        { s with
          power := { s.power with clockReady := true }
          loader := { s.loader with
            status := .reading
            straps := { address := address, cls := cls, sampled := true } } } sda) :=
      if_pos (by simp [hfree, hstopped, hwaiting])
    refine ⟨fun hsda => ?_, fun hlt => ?_, fun hle => ?_⟩
    · rw [hexec, State.beginAttempt_of_clear _ hsda]
    · rw [hexec, State.beginAttempt_stuckLow, State.failAttempt_of_lt hlt]
    · rw [hexec, State.beginAttempt_stuckLow, State.failAttempt_of_le hle]
      refine ⟨_, rfl, SameStation.failLoad ?_ rfl rfl, ?_, SameTable.failLoad ?_,
        State.failLoad_loader _⟩
      · exact ⟨rfl, rfl, rfl, rfl, rfl, rfl, rfl, rfl⟩
      · exact State.failLoad_clockReady _
      · exact ⟨rfl, rfl⟩
  · refine ⟨_, rfl, ?_⟩
    rw [List.append_assoc, List.append_assoc]
    exact (portEvents_clearingPulses_append n _).trans (by rw [← List.append_assoc, portEvents_cleared])
  · refine ⟨_, rfl, ?_⟩
    have hpulses := portEvents_clearingPulses_append 9 []
    rwa [List.append_nil, portEvents, List.append_nil] at hpulses

/-- The bytes up to the one that is not acknowledged, and the stop condition (R160, R161). -/
theorem portEvents_failedPhase (p : AckPoint) :
    portEvents { scl := false, station := false, memory := true } (failedPhase p) =
      (match p with
        | .writeAddress => byteEvents true 0xA4 false
        | .location => byteEvents true 0xA4 true ++ byteEvents true 0x00 false
        | .readAddress => byteEvents true 0xA4 true ++ byteEvents true 0x00 true ++
            [.rise true true, .start] ++ byteEvents true 0xA5 false) ++
        [.rise false true, .stop] := by
  have hstop := fun q (hq : PortLevels.scl q = false) => portEvents_stopCondition hq
  cases p
  case writeAddress => exact portEvents_sentByte_append _ _ _ _ hstop rfl
  case location =>
    rw [failedPhase, List.append_assoc, portEvents_sentByte_append _ _ _ _
      (fun q hq => portEvents_sentByte_append _ _ _ _ hstop hq) rfl, List.append_assoc]
  case readAddress =>
    have hread := fun q (hq : PortLevels.scl q = false) =>
      portEvents_sentByte_append 0xA5 false _ _ hstop hq
    have hagain := fun q (hq : PortLevels.scl q = false) =>
      portEvents_repeatedStart_append _ _ hread hq
    have hlocation := fun q (hq : PortLevels.scl q = false) =>
      portEvents_sentByte_append 0x00 true _ _ hagain hq
    simp only [failedPhase, List.append_assoc]
    rw [portEvents_sentByte_append _ _ _ _ hlocation rfl]
    rfl

/-- Settles O6: a failed attempt is another wait below the fourth, and the fourth ends the load. -/
theorem attemptsAreRetriedUntilTheFourth : Obligations.AttemptsAreRetriedUntilTheFourth := by
  refine ⟨fun sda s hclocked hreading hretry => ?_, fun p s hclocked hreading hattempt => ?_,
    portEvents_failedPhase⟩
  · have hexec : exec (.retryWaitExpiry sda) s = .next (s.beginAttempt sda) :=
      if_pos (by simp [hclocked, hreading, hretry])
    refine ⟨fun hsda => ?_, fun hsda hlt => ?_, fun hsda hle => ?_⟩
    · rw [hexec, State.beginAttempt_of_clear _ hsda]
    · subst hsda
      rw [hexec, State.beginAttempt_stuckLow, State.failAttempt_of_lt hlt, ← hretry]
    · subst hsda
      rw [hexec, State.beginAttempt_stuckLow, State.failAttempt_of_le hle]
      refine ⟨_, rfl, SameStation.failLoad ?_ rfl rfl, SameTable.failLoad ?_, State.failLoad_loader _,
        State.failLoad_config _⟩
      · exact ⟨rfl, rfl, rfl, rfl, rfl, rfl, rfl, rfl⟩
      · exact ⟨rfl, rfl⟩
  · have hexec : exec (.attemptFailed p) s = .next (State.failAttempt
        { s with loader := { s.loader with wire := s.loader.wire ++ failedPhase p } }) :=
      if_pos (by simp [State.attempting, hclocked, hreading, hattempt])
    refine ⟨fun hlt => ?_, fun hle => ?_⟩
    · exact hexec.trans (congrArg _ (State.failAttempt_of_lt hlt))
    · refine ⟨_, hexec.trans (congrArg _ (State.failAttempt_of_le hle)),
        SameStation.failLoad ?_ rfl rfl, SameTable.failLoad ?_, State.failLoad_loader _,
        State.failLoad_config _⟩
      · exact ⟨rfl, rfl, rfl, rfl, rfl, rfl, rfl, rfl⟩
      · exact ⟨rfl, rfl⟩

/-! ### The image (R160, R162, R163) -/

/-- Settles O7: the checks, one by one. -/
theorem imagePassesExactlyItsChecks : Obligations.ImagePassesExactlyItsChecks := by
  intro image _
  simp only [imagePasses, rangesPass, Bool.and_eq_true, beq_iff_eq, bne_iff_ne, decide_eq_true_eq,
    and_assoc]
  tauto

/-- The upper four bits of byte 4 are 0, so that its upper half is the PWM code (R162, R175). -/
theorem pwmCode_of_imagePasses {image : List Byte} (h : imagePasses image = true) :
    (decodeImage image).pwmCode.val = imageByte image 4 / 4 := by
  simp only [imagePasses, Bool.and_eq_true, decide_eq_true_eq] at h
  exact Nat.mod_eq_of_lt (Nat.div_lt_of_lt_mul h.2)

/-- A whole attempt after its start condition (R160). -/
theorem portEvents_attempt {image : List Byte} (h : image.length = 15) :
    portEvents { scl := false, station := false, memory := true }
        (addressPhase ++ dataPhase image ++ stopCondition) =
      byteEvents true 0xA4 true ++ byteEvents true 0x00 true ++ [.rise true true, .start] ++
        byteEvents true 0xA5 true ++
        (image.take 14).flatMap (fun b => byteEvents false b true) ++
        (image.drop 14).flatMap (fun b => byteEvents false b false) ++
        [.rise false true, .stop] := by
  have hdata := fun q (hq : PortLevels.scl q = false) =>
    portEvents_dataPhase_append image _ _ (fun q hq => portEvents_stopCondition hq) hq
  have hread := fun q (hq : PortLevels.scl q = false) =>
    portEvents_sentByte_append 0xA5 true _ _ hdata hq
  have hagain := fun q (hq : PortLevels.scl q = false) =>
    portEvents_repeatedStart_append _ _ hread hq
  have hlocation := fun q (hq : PortLevels.scl q = false) =>
    portEvents_sentByte_append 0x00 true _ _ hagain hq
  simp only [addressPhase, List.append_assoc]
  rw [portEvents_sentByte_append _ _ _ _ hlocation rfl, List.dropLast_eq_take, h]
  simp

/-- The port after an attempt that has been carried to its stop condition: both lines released. -/
theorem State.port_eq_released {s : State} {before : List PortLevels}
    (h : s.loader.wire = before ++ stopCondition) : s.port = PortLevels.released := by
  rw [State.port, h, List.getLast?_append]
  rfl

/-- Settlement starts the PWM of a drive at rest with a first boundary at output 0, in the converter's
first 20 µs (R130, R135, R163). -/
theorem Unloaded.settle_started {s : State} (hu : Unloaded s) (hp : s.part.state = .start)
    (c : Settings) :
    (s.settle c).drive =
        { LoadDrive.reset with period := some { onTime := 0, elapsed := 0 }, gate := false } ∧
      (s.settle c).sense = { SenseUnit.reset with schedule := 1, converter := .settling } ∧
      (s.settle c).demand = s.demand := by
  let seeking : State := { s with
    config := some c
    loader := { s.loader with status := .settled, port := .idle }
    line := { s.line with position := .seek, idleRun := 0 } }
  have hdrive : seeking.startPeriods.drive =
      { LoadDrive.reset with period := some { onTime := 0, elapsed := 0 }, gate := false } := by
    simp [seeking, State.startPeriods, State.beginPeriod, State.scheduleAtBoundary, State.onTimeAt,
      hu.drive, LoadDrive.reset]
  have hsense : seeking.startPeriods.sense =
      { SenseUnit.reset with schedule := 1, converter := .settling } := by
    simp [seeking, State.startPeriods, State.beginPeriod, State.scheduleAtBoundary, hu.sense,
      SenseUnit.reset]
  have htarget : seeking.startPeriods.target = 0 :=
    State.target_eq_zero_of_stateLimited (.inr (.inl (by simpa [seeking] using hp)))
  obtain ⟨hkept, hkeptSense⟩ := State.react_of_output_eq (s := seeking.startPeriods)
    (by rw [htarget, hdrive]; rfl) (by rw [hdrive]; rfl)
  refine ⟨hkept.trans hdrive, hkeptSense.trans hsense, ?_⟩
  show seeking.startPeriods.react.demand = s.demand
  rw [State.react_demand, State.startPeriods_demand]
  simp [seeking, hu.demand, DemandUnit.reset]

/-- Settles O8: the bits of the image spell it again, and it settles the configuration or fails the
load by its checks. -/
theorem completedAttemptSettlesOrHalts : Obligations.CompletedAttemptSettlesOrHalts := by
  intro image s hl hlength hclocked hreading hattempt
  obtain ⟨hu, hp⟩ := hl.loading (.inr hreading)
  have hread : Unloaded (s.readImage image) := hu.setLoader _
  have hexec : exec (.attemptComplete (image.flatMap byteBits)) s = .next
      (if imagePasses image then (s.readImage image).settle (decodeImage image)
        else (s.readImage image).failLoad) := by
    have hbits := bytesOf_flatMap_byteBits image
    have hguard : (s.attempting && (image.flatMap byteBits).length == 120) = true := by
      simp [State.attempting, hclocked, hreading, hattempt, hlength]
    refine (if_pos hguard).trans ?_
    rw [hbits]
  have hcarried (t : State) (hwire : t.loader.wire = (s.readImage image).loader.wire) :
      ∃ levels, t.loader.wire = s.loader.wire ++ levels ∧
        portEvents { scl := false, station := false, memory := true } levels = _ ∧
        t.port = PortLevels.released :=
    ⟨addressPhase ++ dataPhase image ++ stopCondition, hwire.trans (by simp [State.readImage]),
      portEvents_attempt hlength, State.port_eq_released (hwire.trans rfl)⟩
  refine ⟨fun hpasses => ?_, fun hfails => ?_⟩
  · rw [if_pos hpasses] at hexec
    obtain ⟨hdrive, hsense, hdemand⟩ := hread.settle_started hp (decodeImage image)
    have hloader := (s.readImage image).settle_loader (decodeImage image)
    refine ⟨_, decodeImage image, hexec, hcarried _ (by rw [hloader]), by simp [State.settle], rfl, rfl,
      rfl, rfl, pwmCode_of_imagePasses hpasses, rfl, rfl, rfl, rfl, rfl, rfl, rfl, rfl, rfl, rfl, ?_⟩
    refine ⟨by rw [hloader], by rw [hloader]; rfl, by simp [State.settle], by simp [State.settle], hdemand,
      by simp [State.settle], ?_, ?_, ?_, ?_, ?_, ?_⟩
    · rw [show ((s.readImage image).settle (decodeImage image)).lineCount = s.lineCount by
        simp [State.settle], hu.lineCount]
    all_goals simp [hdrive, hsense, LoadDrive.reset]
  · rw [if_neg (by simp [hfails])] at hexec
    have hloader := (s.readImage image).failLoad_loader
    refine ⟨_, hexec, hcarried _ (by rw [hloader]), SameStation.failLoad ?_ rfl rfl, by rw [hloader],
      by rw [hloader]; rfl, ?_⟩
    · exact ⟨rfl, rfl, rfl, rfl, rfl, rfl, rfl, rfl⟩
    · rw [State.failLoad_config]
      exact hread.config

end Sys2Proof.Machine
end

section
/-! The traffic of the line (O9 to O11, O15, O17, O18, O21): what moves the line position, the outbox at a
start opportunity, the sender's read-back, and the receiver's frame. -/

namespace Sys2Proof.Machine

/-- The end of a frame, written out (R88). -/
theorem LineInterface.endFrame_eq (l : LineInterface) (p : LinePosition) :
    l.endFrame p = { LineInterface.reset with
      position := p, faultCount := l.faultCount, outbox := l.outbox } := rfl

/-! ### Bus idle, SOF and the end of a frame (R58, R88, R90, R94) -/

/-- Eleven recessive bits are a bus idle, whatever came before (R88). -/
theorem idleRunAfter_eleven (run : Nat) (before : List Bit) :
    11 ≤ idleRunAfter run (before ++ List.replicate 11 recessive) := by
  rw [idleRunAfter_append, idleRunAfter_recessive]
  exact Nat.le_add_left _ _

/-- Settles O9: by whether the station is in START. -/
theorem busIdleMakesTheLineReady : Obligations.BusIdleMakesTheLineReady := by
  intro before s hclocked hseek
  have hexec : exec (.busIdle (before ++ List.replicate 11 recessive)) s = .next
      (let ready : State := { s with line := { s.line with position := .ready, idleRun := 11 } }
        if s.part.state = .start then (ready.enterGather false).react else ready) :=
    if_pos (by rw [hclocked, hseek, decide_eq_true (idleRunAfter_eleven _ before)]; rfl)
  refine ⟨fun hstate => ?_, fun hstart => ?_⟩
  · rw [hexec, if_neg hstate]
  · rw [if_pos hstart] at hexec
    have hready : SameStation s { s with line := { s.line with position := .ready, idleRun := 11 } } :=
      ⟨rfl, rfl, rfl, rfl, rfl, rfl, rfl, rfl⟩
    refine ⟨_, hexec, hready.entersGather rfl (.refl _) rfl, ?_, ?_, ?_, ?_, ?_⟩
    · constructor <;> simp
    · constructor <;> simp [State.enterGather_monitor, State.raiseIf]
    all_goals simp [State.enterGather_line, State.enterGather_monitor, State.raiseIf]

/-- Settles O10: each row by the position it needs. -/
theorem linePositionMoves : Obligations.LinePositionMoves := by
  intro s hclocked
  refine ⟨fun hready => ?_, fun htail => ⟨?_, ?_, ?_⟩, fun hjam => ?_⟩
  · exact if_pos (by simp [hclocked, hready])
  · exact if_pos (by simp [hclocked, htail])
  · exact if_pos (by simp [hclocked, htail])
  · exact if_pos (by simp [hclocked, htail])
  · exact if_pos (by simp [hclocked, hjam])

/-! ### What a start opportunity withdraws and sends (R114) -/

/-- Neither the request sent nor one tested after it is withdrawn. -/
theorem State.not_mem_withdrawn {s : State} {j k : FrameKind}
    (hk : (s.line.outbox.has k && s.valid k) = true) (hjk : k.code ≤ j.code) : j ∉ s.withdrawn := by
  intro hmem
  obtain ⟨earlier, later, horder⟩ := List.append_of_mem (mem_kindOrder k)
  have hsorted := pairwise_kindOrder
  rw [horder] at hsorted
  obtain ⟨-, -, hbefore⟩ := List.pairwise_append.mp hsorted
  have hpassed : j ∈ kindOrder.takeWhile fun k => !(s.line.outbox.has k && s.valid k) :=
    (List.mem_filter.mp hmem).1
  have hearlier : j ∈ earlier := by
    have hprefix : kindOrder.takeWhile (fun k => !(s.line.outbox.has k && s.valid k)) <+: earlier := by
      rw [horder, List.takeWhile_append]
      split_ifs
      · rw [List.takeWhile_cons, if_neg (by simp [hk]), List.append_nil]
      · exact List.takeWhile_prefix _
    exact hprefix.subset hpassed
  exact absurd (hbefore j hearlier k List.mem_cons_self) (Nat.not_lt.mpr hjk)

/-- The first request that is present and valid is sent. -/
theorem State.chosen_eq_some {s : State} {k : FrameKind} (hhas : s.line.outbox.has k = true)
    (hvalid : s.valid k = true)
    (hearlier : ∀ j : FrameKind, j.code < k.code → s.line.outbox.has j = true → s.valid j = false) :
    s.chosen = some k := by
  obtain ⟨earlier, later, horder⟩ := List.append_of_mem (mem_kindOrder k)
  have hsorted := pairwise_kindOrder
  rw [horder] at hsorted
  obtain ⟨-, -, hbefore⟩ := List.pairwise_append.mp hsorted
  refine List.find?_eq_some_iff_append.mpr ⟨by simp [hhas, hvalid], earlier, later, horder, ?_⟩
  intro j hj
  cases hpresent : s.line.outbox.has j with
  | false => rfl
  | true => rw [hearlier j (hbefore j hj k List.mem_cons_self) hpresent]; rfl

theorem State.chosen_eq_none {s : State}
    (hinvalid : ∀ j : FrameKind, s.line.outbox.has j = true → s.valid j = false) :
    s.chosen = none := by
  refine List.find?_eq_none.mpr fun j _ => ?_
  cases hpresent : s.line.outbox.has j with
  | false => simp
  | true => simp [hinvalid j hpresent]

/-! ### The Demand Unit after a withdrawal (R107, R110) -/

theorem State.place_eq (s : State) (r : Request) :
    s.place r = { s with line := { s.line with outbox := (s.place r).line.outbox } } := by
  unfold State.place
  split_ifs <;> rfl

theorem State.decideDemand_eq (s : State) :
    s.decideDemand = { s with line := { s.line with outbox := s.decideDemand.line.outbox } } := by
  unfold State.decideDemand State.place
  dsimp only
  split_ifs <;> rfl

/-- What the Demand Unit is told of withdrawals changes the outbox alone. -/
theorem State.afterWithdrawal_eq (before s : State) :
    State.afterWithdrawal before s = { s with line := { s.line with
      outbox := (State.afterWithdrawal before s).line.outbox } } := by
  unfold State.afterWithdrawal
  split_ifs
  · exact s.place_eq .release
  · rfl
  · exact s.decideDemand_eq
  · rfl

/-- A placement adds no request of another kind. -/
theorem State.place_has_of {s : State} {r : Request} {k : FrameKind}
    (h : ∀ o : Outbox, (o.add r).has k = o.has k) :
    (s.place r).line.outbox.has k = s.line.outbox.has k := by
  rw [State.place_line]
  split_ifs
  · exact h _
  · rfl

theorem State.place_has {s : State} {k : FrameKind} (r : Request)
    (h : s.line.outbox.has k = true) : (s.place r).line.outbox.has k = true := by
  rw [State.place_line]
  split_ifs
  · exact Outbox.has_add r h
  · exact h

theorem Outbox.has_add_claim (o : Outbox) {k : FrameKind} (h : k ≠ .claim) :
    (o.add .claim).has k = o.has k := by
  cases k
  case claim => contradiction
  all_goals rfl

theorem Outbox.has_add_release (o : Outbox) {k : FrameKind} (h : k ≠ .release) :
    (o.add .release).has k = o.has k := by
  cases k
  case release => contradiction
  all_goals rfl

/-- The placement of a RELEASE where it is due adds no request of another kind, nor a RELEASE that is
not due. -/
theorem State.placeDueRelease_has {s : State} {k : FrameKind}
    (hrelease : k = .release → s.releaseDue = false) :
    (if s.releaseDue = true then s.place .release else s).line.outbox.has k =
      s.line.outbox.has k := by
  split_ifs with hdue
  · have hk : k ≠ .release := fun hk => absurd (hdue.symm.trans (hrelease hk)) (by decide)
    exact State.place_has_of fun o => o.has_add_release hk
  · rfl

theorem State.placeDueClaim_has (s : State) {k : FrameKind} (hclaim : k ≠ .claim) :
    (if s.claimDue = true then s.place .claim else s).line.outbox.has k = s.line.outbox.has k := by
  split_ifs
  · exact State.place_has_of fun o => o.has_add_claim hclaim
  · rfl

/-- A decision places nothing but a RELEASE or a CLAIM, and a RELEASE only where it is due. -/
theorem State.decideDemand_has_of {s : State} {k : FrameKind} (hclaim : k ≠ .claim)
    (hrelease : k = .release → s.releaseDue = false) :
    s.decideDemand.line.outbox.has k = s.line.outbox.has k :=
  (State.placeDueClaim_has _ hclaim).trans (State.placeDueRelease_has hrelease)

/-- A request that stands stays under a placement that a condition guards. -/
theorem State.placeIf_has {s : State} {k : FrameKind} (c : Bool) (r : Request)
    (h : s.line.outbox.has k = true) :
    (if c = true then s.place r else s).line.outbox.has k = true := by
  split_ifs
  · exact State.place_has r h
  · exact h

theorem State.decideDemand_has {s : State} {k : FrameKind} (h : s.line.outbox.has k = true) :
    s.decideDemand.line.outbox.has k = true :=
  State.placeIf_has _ .claim (State.placeIf_has _ .release h)

/-- A withdrawn request that was invalid is not placed again (R107, R110). -/
theorem State.afterWithdrawal_has_of_withdrawn {before s : State} {k : FrameKind}
    (hmem : k ∈ before.withdrawn) (hinvalid : before.valid k = false)
    (hrelease : s.releaseDue = before.releaseDue) (hdue : s.claimDue = before.claimDue) :
    (State.afterWithdrawal before s).line.outbox.has k = s.line.outbox.has k := by
  by_cases hclaim : k = .claim
  · subst hclaim
    exact State.afterWithdrawal_keeps_claim hmem hdue
  have hdueRelease : k = .release → s.releaseDue = false := by
    rintro rfl
    exact hrelease.trans hinvalid
  unfold State.afterWithdrawal
  split
  · exact State.placeDueRelease_has hdueRelease
  · split_ifs
    · exact State.decideDemand_has_of hclaim hdueRelease
    · rfl

theorem State.afterWithdrawal_has {before s : State} {k : FrameKind}
    (h : s.line.outbox.has k = true) : (State.afterWithdrawal before s).line.outbox.has k = true := by
  unfold State.afterWithdrawal
  split_ifs
  · exact State.place_has _ h
  · exact h
  · exact State.decideDemand_has h
  · exact h

/-! ### The start opportunity (R89, R114) -/

/-- The station with the requests withdrawn that a start opportunity finds invalid. -/
def State.withdrawing (s : State) : State :=
  { s with line := { s.line with outbox := s.withdrawn.foldl Outbox.remove s.line.outbox } }

theorem exec_startOpportunity {s : State} (hclocked : s.clocked = true)
    (hready : s.line.position = .ready) (hmay : s.mayTransmit = true) :
    exec .startOpportunity s = .next (State.afterWithdrawal s (match s.chosen with
      | some k => s.withdrawing.sendFrame k
      | none => s.withdrawing)) :=
  if_pos (by simp [hclocked, hready, hmay])

theorem State.withdrawing_has (s : State) (k : FrameKind) :
    s.withdrawing.line.outbox.has k = (s.line.outbox.has k && !s.withdrawn.contains k) :=
  Outbox.has_removeAll _ _ _

theorem Outbox.announce_removeAll {o : Outbox} {ks : List FrameKind} (h : .announce ∉ ks) :
    (ks.foldl Outbox.remove o).announce = o.announce := by
  induction ks generalizing o with
  | nil => rfl
  | cons k ks ih =>
    obtain ⟨hk, hks⟩ := not_or.mp (List.mem_cons.not.mp h)
    rw [List.foldl_cons, ih hks]
    cases k
    case announce => contradiction
    all_goals rfl

/-- The outbox is no part of a frame but for which ANNOUNCE it holds. -/
theorem State.ownFrame_withdrawing {s : State} {k : FrameKind} (hk : k ∉ s.withdrawn) :
    s.withdrawing.ownFrame k = s.ownFrame k := by
  cases k
  case announce =>
    have hannounce : s.withdrawing.line.outbox.announce = s.line.outbox.announce :=
      Outbox.announce_removeAll hk
    have hpayload : s.withdrawing.ownPayload .announce = s.ownPayload .announce := by
      rw [State.ownPayload, hannounce]
      rfl
    rw [State.ownFrame, hpayload]
    rfl
  all_goals rfl

/-- Settles O11: what is withdrawn stands before what is sent, and the Demand Unit places none of it
again. -/
theorem startOpportunityTestsTheOutboxInOrder : Obligations.StartOpportunityTestsTheOutboxInOrder := by
  refine ⟨fun k s hclocked hready hmay hhas hvalid hearlier => ?_,
    fun s hclocked hready hmay hinvalid => ?_, fun s hmay => ?_⟩
  · have hexec := exec_startOpportunity hclocked hready hmay
    have hsent : (s.line.outbox.has k && s.valid k) = true := by rw [hhas, hvalid]; rfl
    rw [State.chosen_eq_some hhas hvalid hearlier] at hexec
    dsimp only at hexec
    have hstays : ∀ j : FrameKind, k.code ≤ j.code → s.line.outbox.has j = true →
        (s.withdrawing.sendFrame k).line.outbox.has j = true := fun j hj hj' => by
      rw [State.sendFrame_line]
      exact (s.withdrawing_has j).trans (by simp [hj', State.not_mem_withdrawn hsent hj])
    refine ⟨_, hexec, ?_⟩
    have heq := State.afterWithdrawal_eq s (s.withdrawing.sendFrame k)
    have hframe := State.ownFrame_withdrawing (State.not_mem_withdrawn hsent le_rfl)
    refine ⟨by rw [heq]; rfl, by rw [heq]; rfl, by rw [heq]; rfl, ?_, ?_,
      State.afterWithdrawal_has (hstays k le_rfl hhas), by rw [heq]; rfl, fun j hj hj' => ?_,
      fun j hj hj' => State.afterWithdrawal_has (hstays j hj.le hj'), ?_⟩
    · rw [heq]; exact congrArg some hframe
    · rw [heq]; exact congrArg lineBits hframe
    · have hmem := State.mem_withdrawn hj' fun i hi hi' => hearlier i (hi.trans_lt hj) hi'
      rw [State.afterWithdrawal_has_of_withdrawn (s := s.withdrawing.sendFrame k) hmem
        (hearlier j hj hj') rfl rfl]
      exact (s.withdrawing_has j).trans (by simp [hmem])
    · rw [heq]
      exact ⟨⟨rfl, rfl, rfl, rfl⟩, ⟨rfl, rfl⟩, ⟨rfl, rfl, rfl⟩, rfl, rfl, rfl⟩
  · have hexec := exec_startOpportunity hclocked hready hmay
    rw [State.chosen_eq_none hinvalid] at hexec
    dsimp only at hexec
    have heq := State.afterWithdrawal_eq s s.withdrawing
    refine ⟨_, hexec, fun j hj => ?_, by rw [heq]; rfl, ?_⟩
    · have hmem := State.mem_withdrawn hj fun i _ hi => hinvalid i hi
      rw [State.afterWithdrawal_has_of_withdrawn (s := s.withdrawing) hmem (hinvalid j hj) rfl rfl]
      exact (s.withdrawing_has j).trans (by simp [hmem])
    · rw [heq]
      exact ⟨⟨rfl, rfl, rfl, rfl⟩, ⟨rfl, rfl⟩, ⟨rfl, rfl, rfl⟩, rfl, rfl, rfl⟩
  · exact if_neg (by simp [hmay])

/-! ### The sender (R91, R92, R95) -/

/-- What the first bit that differs brings, by what was sent and where. -/
theorem readBack_take {sent : List Bit} {i : Nat} {b : Bit} (hb : sent[i]? = some b) (j : Nat) :
    readBack j sent (sent.take i ++ [!b]) =
      if b = dominant then .errorOnDominant
      else if isIdentifierBit (j + i) then .lostArbitration else .errorOnRecessive := by
  induction i generalizing sent j with
  | zero =>
    match sent, hb with
    | c :: _, hb =>
      obtain rfl : c = b := by simpa using hb
      simp [readBack]
  | succ i ih =>
    match sent, hb with
    | c :: rest, hb =>
      have hrest : rest[i]? = some b := by simpa using hb
      rw [List.take_succ_cons, List.cons_append, readBack, if_pos rfl, ih hrest,
        Nat.succ_add_eq_add_succ]

/-- A frame abandoned after an own error (R92, R100). -/
theorem State.abandon_takesOwnError (s : State) :
    TakesOwnError s (s.endFrame .seek).ownError.react :=
  SameStation.takesOwnError (u := s.endFrame .seek) ⟨rfl, rfl, rfl, rfl, rfl, rfl, rfl, rfl⟩ rfl rfl
    (.refl _) rfl rfl

/-- What an own error and the reaction to it leave of the line but its fault count and outbox. -/
theorem State.ownError_react_line (s : State) :
    s.ownError.react.line = { s.line with
      faultCount := s.ownError.react.line.faultCount, outbox := s.ownError.react.line.outbox } := by
  rw [State.react_line, State.ownError_line]

theorem State.ownError_react_setup (s : State) : SameSetup s s.ownError.react := by
  constructor <;> simp

theorem State.ownError_react_table (s : State) : SameTable s s.ownError.react := by
  constructor <;> simp

/-- An own error writes no more of the monitor than a flag. -/
theorem State.ownError_monitor (s : State) :
    s.ownError.monitor = { s.monitor with flags := s.ownError.monitor.flags } := by
  obtain ⟨h, -⟩ | ⟨h, -⟩ := s.ownError_cases <;> rw [h]
  rw [State.enterMute_monitor]

theorem State.ownError_port (s : State) : SamePort s s.ownError := by
  constructor <;> rw [State.ownError_monitor]

theorem State.ownError_counters (s : State) : s.ownError.monitor.counters = s.monitor.counters := by
  rw [State.ownError_monitor]

theorem State.ownError_react_port (s : State) : SamePort s s.ownError.react := by
  obtain ⟨hncs, htransaction, hsnapshot, hmiso⟩ := s.ownError_port
  constructor <;> rwa [State.react_monitor]

theorem State.ownError_react_counters (s : State) :
    s.ownError.react.monitor.counters = s.monitor.counters := by
  rw [State.react_monitor, State.ownError_counters]

/-- The line is in SEEK after it, and nothing but the line, the participation and a flag has changed. -/
theorem State.abandon_leaves (s : State) :
    let t := (s.endFrame .seek).ownError.react
    t.line.position = .seek ∧ t.line.role = .none ∧ t.line.tx = none ∧ t.line.drive = .none ∧
      SameSetup s t ∧ SameTable s t ∧ SamePort s t ∧ t.monitor.counters = s.monitor.counters := by
  have hline := (s.endFrame .seek).ownError_react_line
  have hsetup := (s.endFrame .seek).ownError_react_setup
  have htable := (s.endFrame .seek).ownError_react_table
  have hport := (s.endFrame .seek).ownError_react_port
  exact ⟨by rw [hline]; rfl, by rw [hline]; rfl, by rw [hline]; rfl, by rw [hline]; rfl,
    ⟨hsetup.rst, hsetup.loader, hsetup.config, hsetup.pending⟩, ⟨htable.table, htable.lineCount⟩,
    ⟨hport.ncsLow, hport.transaction, hport.snapshot, hport.miso⟩,
    (s.endFrame .seek).ownError_react_counters⟩

/-- Settles O15: each clause by what the read-back or the watch finds. -/
theorem senderReadsBackItsBits : Obligations.SenderReadsBackItsBits := by
  refine ⟨fun i s hsending hsent hidentifier => ?_, fun i s hsending hsent => ?_,
    fun i s hsending hsent hidentifier => ?_,
    fun n s hclocked hframe hwatching => ⟨fun hlt => ?_, fun hle => ?_⟩⟩
  · have hread : readBack 0 s.line.txBits (s.line.txBits.take i ++ [dominant]) = .lostArbitration :=
      (readBack_take hsent 0).trans (by simp [hidentifier, recessive, dominant])
    exact if_pos (by rw [hsending, hread]; rfl)
  · have hread : readBack 0 s.line.txBits (s.line.txBits.take i ++ [recessive]) = .errorOnDominant :=
      (readBack_take hsent 0).trans (if_pos rfl)
    refine ⟨_, ?_, s.abandon_takesOwnError, s.abandon_leaves⟩
    show execBitError _ s = _
    unfold execBitError
    rw [if_pos hsending, hread]
  · have hread : readBack 0 s.line.txBits (s.line.txBits.take i ++ [dominant]) = .errorOnRecessive :=
      (readBack_take hsent 0).trans (by simp [hidentifier, recessive, dominant])
    show execBitError _ s = _
    unfold execBitError
    rw [if_pos hsending, hread]
    rfl
  · obtain ⟨hposition, hrole, -, -, hrest⟩ := s.abandon_leaves
    refine ⟨_, ?_, s.abandon_takesOwnError, hposition, hrole, hrest⟩
    show execBitErrorWatchEnd _ s = _
    unfold execBitErrorWatchEnd
    rw [if_pos (by simp [hclocked, hframe, hwatching]), watchEnd_ownError hlt]
  · show execBitErrorWatchEnd _ s = _
    unfold execBitErrorWatchEnd
    rw [if_pos (by simp [hclocked, hframe, hwatching]), watchEnd_jam hle]
    rfl

/-! ### The receiver (R93, R94, R96, R99) -/

/-- Settles O18: by the state of the receiver, and for a jammed frame in every state. -/
theorem jamsOfOthersCountNoFault : Obligations.JamsOfOthersCountNoFault := by
  refine ⟨fun bits s hreceiving hjam => ?_, fun f s hclocked hslot => ?_⟩
  · have hexec : exec (.jamRecognised bits) s = .next (if s.part.state = .active then s.jamOrSeek
        else (s.endFrame .seek).count .framesVoid 1) := if_pos (by simp [hreceiving, hjam])
    rw [hexec]
    by_cases hactive : s.part.state = .active
    · simp only [State.jamOrSeek, hactive, beq_self_eq_true]
      rfl
    · simp only [if_neg hactive, beq_eq_false_iff_ne.mpr hactive]
      rfl
  · show execFrameJammed s = _
    unfold execFrameJammed
    simp only [hslot, hclocked]
    rfl

/-- What ends a damaged frame writes the line and a counter (R94, R99). -/
theorem State.jamOrSeek_same (s : State) :
    SameStation s s.jamOrSeek ∧ SameSetup s s.jamOrSeek ∧ SamePort s s.jamOrSeek ∧
      s.jamOrSeek.line.faultCount = s.line.faultCount ∧ s.jamOrSeek.line.outbox = s.line.outbox := by
  unfold State.jamOrSeek
  split_ifs <;> exact ⟨⟨rfl, rfl, rfl, rfl, rfl, rfl, rfl, rfl⟩, ⟨rfl, rfl, rfl, rfl⟩,
    ⟨rfl, rfl, rfl, rfl⟩, rfl, rfl⟩

theorem State.jamOrSeek_of_active {s : State} (h : s.part.state = .active) :
    s.jamOrSeek = { (s.count .framesVoid 1) with
      line := { s.line.endFrame .jam with drive := .jam } } := if_pos h

theorem State.jamOrSeek_of_ne {s : State} (h : s.part.state ≠ .active) :
    s.jamOrSeek = s.endFrame .seek := if_neg h

/-- Settles O17: the own error first, then the jam or the search for bus idle by the state it leaves. -/
theorem formatErrorJamsInActiveOnly : Obligations.FormatErrorJamsInActiveOnly := by
  intro bits s hreceiving herror
  have hexec : exec (.formatError bits) s = .next s.ownError.jamOrSeek.react :=
    if_pos (by simp [hreceiving, herror])
  obtain ⟨hsame, hsetup, hport, hfault, houtbox⟩ := s.ownError.jamOrSeek_same
  have hstate : s.ownError.jamOrSeek.react.part.state = s.ownError.part.state := by
    rw [State.react_part, hsame.part]
  refine ⟨_, hexec, ?_, fun hactive => ?_, fun hother => ?_, ?_, ?_, ?_⟩
  · exact SameStation.takesOwnError (.refl s) rfl rfl hsame hfault houtbox
  · rw [hstate] at hactive
    rw [State.react_line, State.react_monitor, State.jamOrSeek_of_active hactive]
    refine ⟨rfl, rfl, ?_⟩
    exact congrArg (Counters.rise · 1 .framesVoid) s.ownError_counters
  · rw [hstate] at hother
    rw [State.react_line, State.react_monitor, State.jamOrSeek_of_ne hother]
    exact ⟨rfl, rfl, s.ownError_counters⟩
  · constructor <;> simp [hsetup.rst, hsetup.loader, hsetup.config, hsetup.pending]
  · constructor <;> simp [hsame.table, hsame.lineCount]
  · obtain ⟨hncs, htransaction, hsnapshot, hmiso⟩ := s.ownError_port
    constructor <;> rw [State.react_monitor]
    · exact hport.ncsLow.trans hncs
    · exact hport.transaction.trans htransaction
    · exact hport.snapshot.trans hsnapshot
    · exact hport.miso.trans hmiso

/-- Settles O21: by the sender's address, the state, and the verdict. -/
theorem receivedFrameIsCheckedBeforeItsSlots : Obligations.ReceivedFrameIsCheckedBeforeItsSlots := by
  intro bits r f s hreceiving hread
  have hexec : exec (.frameReceived bits) s =
      if f.sender = s.own then .next (s.enterHalted .conflict).react
      else .next (let held : State := { s with line := { s.line with rx := r, received := some f } }
        if s.part.state = .active then held.driveSlot f else held) := by
    show execFrameReceived bits s = _
    unfold execFrameReceived
    rw [if_pos hreceiving, hread]
  refine ⟨fun hown => ?_, fun hother hstate => ?_, fun hother hactive hagrees => ?_,
    fun hother hactive hdissents => ?_⟩
  · rw [if_pos hown] at hexec
    refine ⟨_, hexec, (SameStation.refl s).entersHalted (.refl s) rfl .conflict, ?_, ?_, ?_, ?_⟩
    · constructor <;> simp
    · constructor <;> simp
    · constructor <;> simp [State.enterHalted_monitor]
    · simp [State.enterHalted_monitor]
  · rw [hexec, if_neg hother, if_neg hstate]
  · rw [hexec, if_neg hother, if_pos hactive]
    exact congrArg _ (if_pos hagrees)
  · rw [hexec, if_neg hother, if_pos hactive]
    exact congrArg _ (if_neg (by rw [Bool.not_eq_true]; exact hdissents))

end Sys2Proof.Machine
end

section
/-! The frame on the line, read back from its bits (O16, O19; R84 to R87, R93, R172, R173). -/

namespace Sys2Proof.Machine

/-! ### The receive shift state, bit by bit (R85, R86, R93) -/

theorem Rx.take_pending_of_edge {r : Rx} (h : r.edgeDue = true) (b : Bit) :
    (r.take b).pending = (r.pending || (b == dominant && r.last == dominant)) := by
  rw [Rx.take, if_pos h]

theorem Rx.take_pending_of_frame {r : Rx} (h : r.edgeDue = false) (b : Bit) :
    (r.take b).pending = r.pending := by
  rw [Rx.take, if_neg (by simp [h])]

theorem Rx.take_bits_of_edge {r : Rx} (h : r.edgeDue = true) (b : Bit) : (r.take b).bits = r.bits := by
  rw [Rx.take_bits, if_pos h]

theorem Rx.take_bits_of_frame {r : Rx} (h : r.edgeDue = false) (b : Bit) :
    (r.take b).bits = r.bits ++ [b] := by
  rw [Rx.take_bits, if_neg (by simp [h])]

/-- A run of ten is a jam, whatever else the bit is (R86). -/
theorem Rx.run_take_ge_iff (r : Rx) (b : Bit) : 10 ≤ (r.take b).run ↔ b = dominant ∧ 9 ≤ r.run := by
  rw [Rx.take_run]
  cases b
  · simp [dominant]
  · simp [dominant]

theorem Rx.event_of_jam {r : Rx} {b : Bit} (h : 10 ≤ (r.take b).run) : r.event b = .jam := if_pos h

theorem Rx.event_of_pending {r : Rx} {b : Bit} (h : ¬ 10 ≤ (r.take b).run) (hp : r.pending = true)
    (hb : b = recessive) : r.event b = .formatError := by
  rw [Rx.event, if_neg h, if_pos (by simp [hp, hb])]

/-- An edge bit without a pending violation that ends (R85, R86). -/
theorem Rx.event_of_edge {r : Rx} {b : Bit} (h : ¬ 10 ≤ (r.take b).run)
    (hp : (r.pending && b == recessive) = false) (he : r.edgeDue = true) :
    r.event b = if b == recessive && r.last == recessive then .formatError else .more := by
  rw [Rx.event, if_neg h, if_neg (Bool.eq_false_iff.mp hp), if_pos he]

/-- A frame bit without a pending violation that ends (R86, R93). -/
theorem Rx.event_of_frame {r : Rx} {b : Bit} (h : ¬ 10 ≤ (r.take b).run)
    (hp : (r.pending && b == recessive) = false) (he : r.edgeDue = false) :
    r.event b =
      if 25 ≤ (r.bits ++ [b]).length ∧ (r.bits ++ [b]).length = frameLength (r.bits ++ [b]) then
        if r.pending then .formatError
        else (parseFrame (r.bits ++ [b])).elim .formatError .complete
      else .more := by
  rw [Rx.event, if_neg h, if_neg (Bool.eq_false_iff.mp hp), if_neg (by simp [he]),
    Rx.take_bits_of_frame he]
  cases parseFrame (r.bits ++ [b]) <;> rfl

/-! ### What bits spell a frame (R87, R93, R172, R173) -/

/-- The kinds and lengths that make a payload (R172, R173). -/
theorem decodePayload_ne_none_iff (code : Nat) (bytes : List Byte) :
    decodePayload code bytes ≠ none ↔
      (code = 0 ∧ bytes.length = 0 ∨
        code = 1 ∧ 1 ≤ bytes.length ∧ bytes.length ≤ 4 ∨
        code = 2 ∧ (bytes.getD 2 0).toNat % 8 ≤ 4 ∧
          bytes.length = 3 + 3 * ((bytes.getD 2 0).toNat % 8) ∨
        code = 3 ∧ (bytes.getD 2 0).toNat % 8 ≤ 4 ∧
          bytes.length = 3 + 2 * ((bytes.getD 2 0).toNat % 8) ∨
        code = 4 ∧ (bytes.getD 0 0).toNat % 8 ≤ 4 ∧
          bytes.length = 4 + 2 * ((bytes.getD 0 0).toNat % 8)) := by
  match code with
  | 0 => simp [decodePayload]
  | 1 => simp [decodePayload]
  | 2 =>
    match bytes with
    | [] => simp [decodePayload]
    | [_] => simp [decodePayload]
    | [_, _] => simp [decodePayload]
    | _ :: _ :: c :: rest =>
      have hlength : rest.length = 3 * (c.toNat % 8) ↔ rest.length + 3 = 3 + 3 * (c.toNat % 8) := by
        omega
      simp [decodePayload, countField, hlength]
  | 3 =>
    match bytes with
    | [] => simp [decodePayload]
    | [_] => simp [decodePayload]
    | [_, _] => simp [decodePayload]
    | _ :: _ :: c :: rest =>
      have hlength : rest.length = 2 * (c.toNat % 8) ↔ rest.length + 3 = 3 + 2 * (c.toNat % 8) := by
        omega
      simp [decodePayload, countField, hlength]
  | 4 =>
    match bytes with
    | [] => simp [decodePayload]
    | [_] => simp [decodePayload]; omega
    | [_, _] => simp [decodePayload]; omega
    | [_, _, _] => simp [decodePayload]; omega
    | c :: _ :: _ :: _ :: rest =>
      have hlength : rest.length = 2 * (c.toNat % 8) ↔ rest.length + 4 = 4 + 2 * (c.toNat % 8) := by
        omega
      simp [decodePayload, countField, hlength]
  | _ + 5 => simp [decodePayload]

theorem parseFrame_ne_none_iff (bits : List Bit) :
    parseFrame bits ≠ none ↔
      crc16 ((bits.drop 1).take (bits.length - 17)) =
          BitVec.ofNat 16 (natOf (bits.drop (bits.length - 16))) ∧
        decodePayload (natOf ((bits.drop 1).take 3))
          (bytesOf ((bits.drop 25).take (bits.length - 41))) ≠ none := by
  unfold parseFrame
  split_ifs with hcrc
  · split <;> simp_all
  · exact iff_of_false (fun h => h rfl) fun h => hcrc h.1

/-- Settles O16: the bit by whether a run of ten stands, a violation is pending, and an edge bit is
due; the end by what the frame bits spell. -/
theorem receiverFindsEdgeBitViolations : Obligations.ReceiverFindsEdgeBitViolations := by
  refine ⟨fun r b => ⟨fun hb hrun => ?_, fun he hb hlast => ?_, fun he hb hlast hrun => ?_,
    fun hp hb => ?_, fun he hb hrun hp => ?_, fun he hjam => ?_⟩, fun bits => ?_⟩
  · exact Rx.event_of_jam ((r.run_take_ge_iff b).mpr ⟨hb, hrun⟩)
  · have hjam : ¬ 10 ≤ (r.take b).run := by simp [r.run_take_ge_iff, hb, dominant, recessive]
    by_cases hp : r.pending = true
    · exact Rx.event_of_pending hjam hp hb
    · rw [Rx.event_of_edge hjam (by simp [hp]) he]
      simp [hb, hlast]
  · have hjam : ¬ 10 ≤ (r.take b).run := by
      rw [r.run_take_ge_iff]
      exact fun h => absurd h.2 (Nat.not_le.mpr hrun)
    refine ⟨?_, ?_, Rx.take_bits_of_edge he b⟩
    · rw [Rx.event_of_edge hjam (by simp [hb, dominant, recessive]) he]
      simp [hb, dominant, recessive]
    · rw [Rx.take_pending_of_edge he]
      simp [hb, hlast]
  · have hjam : ¬ 10 ≤ (r.take b).run := by simp [r.run_take_ge_iff, hb, dominant, recessive]
    exact Rx.event_of_pending hjam hp hb
  · have hjam : ¬ 10 ≤ (r.take b).run := by
      rw [r.run_take_ge_iff]
      exact fun h => absurd h.2 (Nat.not_le.mpr hrun)
    refine ⟨?_, ?_, Rx.take_bits_of_edge he b⟩
    · rw [Rx.event_of_edge hjam (by simp [hp]) he]
      refine if_neg fun h => hb ?_
      simp only [Bool.and_eq_true, beq_iff_eq] at h
      exact h.1.trans h.2.symm
    · rw [Rx.take_pending_of_edge he, hp]
      refine Bool.eq_false_iff.mpr fun h => hb ?_
      simp only [Bool.false_or, Bool.and_eq_true, beq_iff_eq] at h
      exact h.1.trans h.2.symm
  · rw [← r.run_take_ge_iff] at hjam
    refine ⟨fun hlast hp => ?_, fun hlast hp hnone => ?_, fun f hlast hp hsome => ?_,
      fun hlast hbad => ?_⟩
    · by_cases hb : b = recessive
      · exact Rx.event_of_pending hjam hp hb
      · rw [Rx.event_of_frame hjam (by simpa [hp, recessive] using hb) he, frameLength, if_pos hlast, if_pos hp]
    · rw [Rx.event_of_frame hjam (by simp [hp]) he, frameLength, if_pos hlast, if_neg (by simp [hp]),
          hnone, Option.elim_none]
    · rw [Rx.event_of_frame hjam (by simp [hp]) he, frameLength, if_pos hlast, if_neg (by simp [hp]),
          hsome, Option.elim_some]
    · have hquiet : (r.pending && b == recessive) = false :=
        Bool.eq_false_iff.mpr fun h => hbad (by simpa using h)
      exact ⟨by rw [Rx.event_of_frame hjam hquiet he, frameLength, if_neg hlast],
        Rx.take_bits_of_frame he b, Rx.take_pending_of_frame he b⟩
  · exact (parseFrame_ne_none_iff bits).trans (and_congr_right fun _ => decodePayload_ne_none_iff _ _)

/-! ### Payloads read back (R172, R173) -/

@[simp] theorem byteAddress_addressByte (a : Address) : byteAddress (addressByte a) = a := by
  have ha := a.isLt
  refine Fin.ext ?_
  simp only [byteAddress, addressByte, BitVec.toNat_ofNat]
  omega

theorem unitByte_toNat {n : Nat} (h : n < 256) : (unitByte n).toNat = n := by
  rw [unitByte, BitVec.toNat_ofNat, Nat.mod_eq_of_lt h]

theorem countField_ofNat {n : Nat} (h : n ≤ 4) : countField (BitVec.ofNat 8 n) = n := by
  rw [countField, BitVec.toNat_ofNat]
  omega

theorem settlementsFrom_flatMap {list : List Settlement}
    (h : ∀ x ∈ list, x.settled < 256 ∧ x.given < 256) :
    settlementsFrom (list.flatMap settlementBytes) = list := by
  induction list with
  | nil => rfl
  | cons x xs ih =>
    obtain ⟨hsettled, hgiven⟩ := h x List.mem_cons_self
    rw [List.flatMap_cons, settlementBytes, List.cons_append, List.cons_append, List.cons_append,
      List.nil_append, settlementsFrom, ih fun y hy => h y (List.mem_cons_of_mem _ hy),
      byteAddress_addressByte, unitByte_toNat hsettled, unitByte_toNat hgiven]

theorem victimsFrom_flatMap {victims : List Victim} (h : ∀ v ∈ victims, v.units < 256) :
    victimsFrom (victims.flatMap victimBytes) = victims := by
  induction victims with
  | nil => rfl
  | cons v vs ih =>
    rw [List.flatMap_cons, victimBytes, List.cons_append, List.cons_append, List.nil_append,
      victimsFrom, ih fun y hy => h y (List.mem_cons_of_mem _ hy), byteAddress_addressByte,
      unitByte_toNat (h v List.mem_cons_self)]

theorem debtsFrom_flatMap {debts : List DebtRecord} (h : ∀ d ∈ debts, d.units < 256) :
    debtsFrom (debts.flatMap debtBytes) = debts := by
  induction debts with
  | nil => rfl
  | cons d ds ih =>
    rw [List.flatMap_cons, debtBytes, List.cons_append, List.cons_append, List.nil_append,
      debtsFrom, ih fun y hy => h y (List.mem_cons_of_mem _ hy), byteAddress_addressByte,
      unitByte_toNat (h d List.mem_cons_self)]

theorem flatMap_settlementBytes_length (list : List Settlement) :
    (list.flatMap settlementBytes).length = 3 * list.length := by
  simp [settlementBytes, Nat.mul_comm]

theorem flatMap_victimBytes_length (victims : List Victim) :
    (victims.flatMap victimBytes).length = 2 * victims.length := by
  simp [victimBytes, Nat.mul_comm]

theorem flatMap_debtBytes_length (debts : List DebtRecord) :
    (debts.flatMap debtBytes).length = 2 * debts.length := by
  simp [debtBytes, Nat.mul_comm]

/-- The head byte of an ANNOUNCE carries the rejoin mark in bit 7 and the count in bits 2 to 0. -/
theorem announceHead (rejoin : Bool) {n : Nat} (h : n ≤ 4) :
    countField (BitVec.ofNat 8 ((if rejoin then 128 else 0) + n)) = n ∧
      (BitVec.ofNat 8 ((if rejoin then 128 else 0) + n)).toNat.testBit 7 = rejoin := by
  interval_cases n <;> cases rejoin <;> decide

/-- A payload that fits is read from its bytes. -/
theorem decodePayload_payloadBytes {p : Payload} (h : p.Fits) :
    decodePayload p.kind.code (payloadBytes p) = some p := by
  cases p with
  | sag => rfl
  | evict addresses =>
    obtain ⟨hone, hfour⟩ := h
    show (if _ then _ else _) = _
    rw [payloadBytes, if_pos (by simpa using ⟨hone, hfour⟩), List.map_map]
    simp [Function.comp_def]
  | release want decrement list =>
    obtain ⟨hwant, hdecrement, hfour, hlist⟩ := h
    show (if _ then _ else _) = _
    rw [if_pos ⟨by rwa [countField_ofNat hfour],
      by rw [countField_ofNat hfour, flatMap_settlementBytes_length]⟩,
      unitByte_toNat hwant, unitByte_toNat hdecrement, settlementsFrom_flatMap hlist]
  | claim want increment victims =>
    obtain ⟨hwant, hincrement, hfour, hvictims⟩ := h
    show (if _ then _ else _) = _
    rw [if_pos ⟨by rwa [countField_ofNat hfour],
      by rw [countField_ofNat hfour, flatMap_victimBytes_length]⟩,
      unitByte_toNat hwant, unitByte_toNat hincrement, victimsFrom_flatMap hvictims]
  | announce rejoin floor want holding debts =>
    obtain ⟨hfloor, hwant, hholding, hfour, hdebts⟩ := h
    obtain ⟨hcount, hrejoin⟩ := announceHead rejoin hfour
    show (if _ then _ else _) = _
    rw [if_pos ⟨by rwa [hcount], by rw [hcount, flatMap_debtBytes_length]⟩, hrejoin,
      unitByte_toNat hfloor, unitByte_toNat hwant, unitByte_toNat hholding, debtsFrom_flatMap hdebts]

/-- The length field has room for the length of a payload that fits. -/
theorem payloadBytes_length_lt {p : Payload} (h : p.Fits) : (payloadBytes p).length < 16 := by
  cases p with
  | sag => decide
  | evict addresses =>
    obtain ⟨-, hfour⟩ := h
    simp only [payloadBytes, List.length_map]
    omega
  | release want decrement list =>
    obtain ⟨-, -, hfour, -⟩ := h
    simp only [payloadBytes, List.length_cons, flatMap_settlementBytes_length]
    omega
  | claim want increment victims =>
    obtain ⟨-, -, hfour, -⟩ := h
    simp only [payloadBytes, List.length_cons, flatMap_victimBytes_length]
    omega
  | announce rejoin floor want holding debts =>
    obtain ⟨-, -, -, hfour, -⟩ := h
    simp only [payloadBytes, List.length_cons, flatMap_debtBytes_length]
    omega

/-! ### The fields of a frame in its bits (R84) -/

/-- What stands after a field. -/
theorem drop_field {bits field after : List Bit} {i n : Nat} (h : bits.drop i = field ++ after)
    (hn : field.length = n) : bits.drop (i + n) = after := by
  rw [← List.drop_drop, h, List.drop_left' hn]

/-- The frame bits, field by field (R84). -/
theorem frameBits_eq (f : Frame) :
    frameBits f = [dominant] ++ (bitsOf 3 f.payload.kind.code ++ (bitsOf 2 f.rank.val ++
      (bitsOf 2 f.wait.val ++ (bitsOf 5 f.sender.val ++ (byteBits f.lineCount ++
        (bitsOf 4 (payloadBytes f.payload).length ++ ((payloadBytes f.payload).flatMap byteBits ++
          bitsOf 16 (crc16 (coveredBits f)).toNat))))))) := by
  simp [frameBits, coveredBits]

/-- The bits that the CRC covers, and the CRC, among the frame bits (R87). -/
theorem frameBits_covered (f : Frame) :
    ((frameBits f).drop 1).take ((frameBits f).length - 17) = coveredBits f := by
  have hlength : (coveredBits f).length = (frameBits f).length - 17 := by simp [frameBits]
  rw [← hlength, frameBits, List.drop_succ_cons, List.drop_zero, List.take_left]

theorem frameBits_check (f : Frame) :
    (frameBits f).drop ((frameBits f).length - 16) = bitsOf 16 (crc16 (coveredBits f)).toNat := by
  have hlength : (dominant :: coveredBits f).length = (frameBits f).length - 16 := by simp [frameBits]
  rw [← hlength, frameBits, ← List.cons_append, List.drop_left]

theorem code_lt (k : FrameKind) : k.code < 2 ^ 3 := by cases k <;> decide

/-- A frame that fits is spelled by its frame bits (R84, R87). -/
theorem parseFrame_frameBits {f : Frame} (h : f.payload.Fits) : parseFrame (frameBits f) = some f := by
  have hkind := (congrArg (List.drop 1) (frameBits_eq f)).trans (List.drop_left' rfl)
  have hrank := drop_field hkind (bitsOf_length _ _)
  have hwait := drop_field hrank (bitsOf_length _ _)
  have hsender := drop_field hwait (bitsOf_length _ _)
  have hcount := drop_field hsender (bitsOf_length _ _)
  have hsize := drop_field hcount (byteBits_length _)
  have hpayload := drop_field hsize (bitsOf_length _ _)
  have hlength : (frameBits f).length - 41 = ((payloadBytes f.payload).flatMap byteBits).length := by
    rw [frameBits_length, flatMap_byteBits_length, Nat.add_sub_cancel_left]
  unfold parseFrame
  rw [frameBits_covered, frameBits_check, natOf_bitsOf_of_lt (crc16 _).isLt,
    if_pos (by simp), hkind, List.take_left' (bitsOf_length _ _), natOf_bitsOf_of_lt (code_lt _),
    hpayload, hlength, List.take_left, bytesOf_flatMap_byteBits, decodePayload_payloadBytes h, hrank,
    List.take_left' (bitsOf_length _ _), natOf_bitsOf_of_lt f.rank.isLt, hwait,
    List.take_left' (bitsOf_length _ _), natOf_bitsOf_of_lt f.wait.isLt, hsender,
    List.take_left' (bitsOf_length _ _), natOf_bitsOf_of_lt f.sender.isLt, hcount,
    List.take_left' (byteBits_length _), byteBits, natOf_bitsOf_of_lt f.lineCount.isLt]
  simp

/-! ### The bits of a frame, read with their edge bits (R85, R86, R93) -/

/-- The length field stands within the first twenty-five bits (R84). -/
theorem frameLength_of_prefix {f : Frame} (h : f.payload.Fits) {bits : List Bit}
    (hprefix : bits <+: frameBits f) (hlength : 25 ≤ bits.length) :
    frameLength bits = (frameBits f).length := by
  have hkind := (congrArg (List.drop 1) (frameBits_eq f)).trans (List.drop_left' rfl)
  have hrank := drop_field hkind (bitsOf_length _ _)
  have hwait := drop_field hrank (bitsOf_length _ _)
  have hsender := drop_field hwait (bitsOf_length _ _)
  have hcount := drop_field hsender (bitsOf_length _ _)
  have hsize := drop_field hcount (byteBits_length _)
  have hfield : (bits.drop 21).take 4 = ((frameBits f).drop 21).take 4 := by
    rw [List.prefix_iff_eq_take.mp hprefix, List.drop_take, List.take_take,
      Nat.min_eq_left (by omega)]
  rw [frameLength, hfield, hsize, List.take_left' (bitsOf_length _ _),
    natOf_bitsOf_of_lt (payloadBytes_length_lt h), frameBits_length]

/-- A receiver that has read the frame bits `bits` and any edge bit after them. -/
structure Rx.Follows (r : Rx) (bits : List Bit) : Prop where
  taken : r.bits = bits
  frameBit : r.edgeDue = false
  clean : r.pending = false
  /-- No more than one edge bit and the frame bits since it make up the run. -/
  run : r.run ≤ bits.length % 8 + 1

/-- A frame bit that is not the last. -/
theorem Rx.Follows.event_more {f : Frame} (h : f.payload.Fits) {r : Rx} {bits : List Bit} {b c : Bit}
    {rest : List Bit} (hr : r.Follows bits) (hall : frameBits f = bits ++ b :: c :: rest) :
    r.event b = .more := by
  have hjam : ¬ 10 ≤ (r.take b).run := by
    rw [r.run_take_ge_iff]
    rintro ⟨-, hrun⟩
    have := hr.run
    omega
  rw [Rx.event_of_frame hjam (by simp [hr.clean]) hr.frameBit, hr.taken, if_neg]
  rintro ⟨hlong, hends⟩
  have hprefix : bits ++ [b] <+: frameBits f := ⟨c :: rest, by simp [hall]⟩
  rw [frameLength_of_prefix h hprefix hlong, hall] at hends
  simp at hends

/-- The last frame bit. -/
theorem Rx.Follows.event_complete {f : Frame} (h : f.payload.Fits) {r : Rx} {bits : List Bit} {b : Bit}
    (hr : r.Follows bits) (hall : frameBits f = bits ++ [b]) : r.event b = .complete f := by
  have hjam : ¬ 10 ≤ (r.take b).run := by
    rw [r.run_take_ge_iff]
    rintro ⟨-, hrun⟩
    have := hr.run
    omega
  have hlong : 25 ≤ (frameBits f).length := by
    rw [frameBits_length]
    omega
  rw [Rx.event_of_frame hjam (by simp [hr.clean]) hr.frameBit, hr.taken, ← hall,
    if_pos ⟨hlong, (frameLength_of_prefix h (List.prefix_refl _) hlong).symm⟩, hr.clean,
    parseFrame_frameBits h]
  rfl

/-- A frame bit after which no edge bit is due. -/
theorem Rx.Follows.take_frame {r : Rx} {bits : List Bit} (hr : r.Follows bits) (b : Bit)
    (hn : (bits.length + 1) % 8 ≠ 0) : (r.take b).Follows (bits ++ [b]) where
  taken := by rw [Rx.take_bits_of_frame hr.frameBit, hr.taken]
  frameBit := by
    rw [Rx.take, if_neg (by simp [hr.frameBit])]
    simpa [hr.taken] using hn
  clean := by rw [Rx.take_pending_of_frame hr.frameBit, hr.clean]
  run := by
    have := hr.run
    rw [Rx.take_run, List.length_append, List.length_singleton]
    split_ifs <;> omega

/-- A frame bit and the edge bit after it, its complement. -/
theorem Rx.Follows.take_edge {r : Rx} {bits : List Bit} (hr : r.Follows bits) (b : Bit)
    (hn : (bits.length + 1) % 8 = 0) :
    (r.take b).event (!b) = .more ∧ ((r.take b).take (!b)).Follows (bits ++ [b]) := by
  have hedge : (r.take b).edgeDue = true := by
    rw [Rx.take, if_neg (by simp [hr.frameBit])]
    simpa [hr.taken] using hn
  have hlast : (r.take b).last = b := by
    rw [Rx.take, if_neg (by simp [hr.frameBit])]
  have hclean : (r.take b).pending = false := by
    rw [Rx.take_pending_of_frame hr.frameBit, hr.clean]
  have hrun : ((r.take b).take (!b)).run ≤ 1 := by
    rw [Rx.take_run, Rx.take_run]
    cases b <;> simp
  refine ⟨?_, ⟨?_, ?_, ?_, ?_⟩⟩
  · rw [Rx.event_of_edge (by omega) (by simp [hclean]) hedge, hlast]
    cases b <;> rfl
  · rw [Rx.take_bits_of_edge hedge, Rx.take_bits_of_frame hr.frameBit, hr.taken]
  · rw [Rx.take, if_pos hedge]
  · rw [Rx.take_pending_of_edge hedge, hclean, hlast]
    cases b <;> rfl
  · exact hrun.trans (Nat.le_add_left _ _)

/-- From any frame bit on, the rest of the line bits completes the frame. -/
theorem readBits_withEdges {f : Frame} (h : f.payload.Fits) {post : List Bit} :
    ∀ {bits : List Bit} {r : Rx}, r.Follows bits → frameBits f = bits ++ post → post ≠ [] →
      (readBits r (withEdges bits.length post)).2 = .complete f := by
  induction post with
  | nil => exact fun _ _ hne => absurd rfl hne
  | cons b post ih =>
    intro bits r hr hall _
    have hlength := congrArg List.length hall
    rw [frameBits_length, List.length_append, List.length_cons] at hlength
    have hnext : frameBits f = (bits ++ [b]) ++ post := by simp [hall]
    have hcount : bits.length + 1 = (bits ++ [b]).length := by simp
    match post, hall, hnext with
    | [], hall, _ =>
      have hn : (bits.length + 1) % 8 ≠ 0 := by
        simp only [List.length_nil] at hlength
        omega
      rw [withEdges, if_neg hn, readBits, hr.event_complete h hall]
    | c :: rest, hall, hnext =>
      have hmore := hr.event_more h hall
      rw [withEdges]
      split_ifs with hn
      · obtain ⟨hedge, hfollows⟩ := hr.take_edge b hn
        rw [readBits, hmore]
        dsimp only
        rw [readBits, hedge, hcount]
        exact ih hfollows hnext (List.cons_ne_nil _ _)
      · rw [readBits, hmore, hcount]
        exact ih (hr.take_frame b hn) hnext (List.cons_ne_nil _ _)

theorem Rx.start_follows : Rx.start.Follows [] := ⟨rfl, rfl, rfl, Nat.zero_le _⟩

/-- The SOF bit brings nothing yet, and no edge bit follows it. -/
theorem lineBits_eq (f : Frame) :
    lineBits f = dominant :: withEdges 1 (coveredBits f ++ bitsOf 16 (crc16 (coveredBits f)).toNat) :=
  rfl

/-- Settles O19: bit by bit from SOF, with the edge bits in their places. -/
theorem everyFrameIsReadFromItsLineBits : Obligations.EveryFrameIsReadFromItsLineBits := by
  intro f h
  have hread : (readBits Rx.start (lineBits f)).2 = .complete f :=
    readBits_withEdges h Rx.start_follows (List.nil_append _).symm (by simp [frameBits])
  refine ⟨hread, ?_, ?_⟩
  · rw [lineBits_eq, readBits] at hread
    exact hread
  · rw [lineBits, withEdges_length, frameBits_length]
    omega

end Sys2Proof.Machine
end

section
/-! The own frames (O13, O14): their content, and that they follow from the own table (R28, R51 to R55,
R71). -/

namespace Sys2Proof.Machine

/-! ### The list of an EVICT (R71) -/

/-- The order in which silent peers are listed: the larger age first, the lower address among equals. -/
abbrev Table.SilentBefore (t : Table) (a b : Address) : Prop :=
  (t.at b).age < (t.at a).age ∨ ((t.at a).age = (t.at b).age ∧ a ≤ b)

theorem Table.silentBefore_total (t : Table) (a b : Address) :
    t.SilentBefore a b ∨ t.SilentBefore b a := by
  simp only [Table.SilentBefore, Fin.le_def]
  omega

theorem Table.silentBefore_trans {t : Table} {a b c : Address} (hab : t.SilentBefore a b)
    (hbc : t.SilentBefore b c) : t.SilentBefore a c := by
  simp only [Table.SilentBefore, Fin.le_def] at *
  omega

/-- Of two peers that both are listed, one stands strictly before the other. -/
theorem Table.silentBefore_strict {t : Table} {a b : Address} (h : t.SilentBefore a b) (hne : a ≠ b) :
    (t.at b).age < (t.at a).age ∨ ((t.at a).age = (t.at b).age ∧ a < b) :=
  h.imp_right fun ⟨hage, hle⟩ => ⟨hage, lt_of_le_of_ne hle hne⟩

theorem Table.mem_silent {t : Table} {own a : Address} {limit : Nat} :
    a ∈ t.silent own limit ↔ (t.at a).presence = .present ∧ a ≠ own ∧ limit ≤ (t.at a).age := by
  simp [Table.silent, Entry.isPresent_iff, and_assoc]

/-- All silent peers, in the order of an EVICT. -/
def Table.silentQueue (t : Table) (own : Address) (limit : Nat) : List Address :=
  (t.silent own limit).insertionSort fun a b =>
    (t.at b).age < (t.at a).age ∨ ((t.at a).age = (t.at b).age ∧ a ≤ b)

theorem Table.evictList_eq_take (t : Table) (own : Address) (limit : Nat) :
    t.evictList own limit = (t.silentQueue own limit).take 4 := rfl

theorem Table.mem_silentQueue {t : Table} {own a : Address} {limit : Nat} :
    a ∈ t.silentQueue own limit ↔ a ∈ t.silent own limit := List.mem_insertionSort _

theorem Table.pairwise_silentQueue (t : Table) (own : Address) (limit : Nat) :
    (t.silentQueue own limit).Pairwise fun a b =>
      (t.at b).age < (t.at a).age ∨ ((t.at a).age = (t.at b).age ∧ a < b) := by
  have : Std.Total t.SilentBefore := ⟨t.silentBefore_total⟩
  have : IsTrans Address t.SilentBefore := ⟨fun _ _ _ => Table.silentBefore_trans⟩
  have hsorted : (t.silentQueue own limit).Pairwise t.SilentBefore :=
    List.pairwise_insertionSort t.SilentBefore _
  have hnodup : (t.silentQueue own limit).Nodup :=
    (List.perm_insertionSort _ _).nodup_iff.mpr ((List.nodup_finRange 32).filter _)
  exact (hsorted.and hnodup).imp fun ⟨hbefore, hne⟩ => Table.silentBefore_strict hbefore hne

/-- What the first four of an ordered list leave out stands after each of them. -/
theorem left_out_of_four {l : List Address} {before : Address → Address → Prop}
    (h : l.Pairwise before) {a : Address} (ha : a ∈ l) (hout : a ∉ l.take 4) :
    (l.take 4).length = 4 ∧ ∀ b ∈ l.take 4, before b a := by
  rw [← List.take_append_drop 4 l] at h ha
  have hrest : a ∈ l.drop 4 := (List.mem_append.mp ha).resolve_left hout
  obtain ⟨-, -, hcross⟩ := List.pairwise_append.mp h
  refine ⟨?_, fun b hb => hcross b hb a hrest⟩
  have hlong := List.length_pos_of_mem hrest
  rw [List.length_drop] at hlong
  rw [List.length_take]
  omega

theorem Table.silent_of_evictList {t : Table} {own a : Address} {limit : Nat}
    (h : a ∈ t.evictList own limit) : a ∈ t.silent own limit :=
  Table.mem_silentQueue.mp (List.mem_of_mem_take h)

/-- Settles O14: field by field, and the first four of the silent peers in their order. -/
theorem ownFrameContent : Obligations.OwnFrameContent := by
  refine ⟨fun k s => ⟨rfl, rfl, fun n hn => ?_, fun hk => ?_, fun hk => ?_, rfl, fun hr => ?_,
    fun hp => ?_, rfl, rfl⟩, fun t own limit => ⟨List.length_take_le _ _, ?_, fun a ha => ?_,
    fun a ha hout => ?_⟩⟩
  · simp [State.ownFrame, hn]
  · simp [State.ownFrame, State.waitField, hk]
  · simp [State.ownFrame, State.waitField, hk]
  · simp [State.ownFrame, State.ownPayload, hr]
  · simp [State.ownFrame, State.ownPayload, hp, State.ownDebts]
  · exact (t.pairwise_silentQueue own limit).sublist (List.take_sublist _ _)
  · exact Table.mem_silent.mp (Table.silent_of_evictList ha)
  · exact left_out_of_four (t.pairwise_silentQueue own limit)
      (Table.mem_silentQueue.mpr (Table.mem_silent.mpr ha)) hout

/-! ### Own frames against the own table (R28, R44 to R49) -/

/-- The rank of an own frame reads back as the own class (R84). -/
theorem State.classOfRank_ownFrame (s : State) (k : FrameKind) :
    classOfRank (s.ownFrame k).rank = s.loader.straps.cls := by
  have hcls := s.loader.straps.cls.isLt
  refine Fin.ext ?_
  show 3 - (3 - s.loader.straps.cls.val) = s.loader.straps.cls.val
  omega

theorem State.ownHolding_of_present {s : State} (h : s.ownEntry.presence = .present) :
    s.ownHolding = (s.table.at s.own).holding := Entry.share_of_present h

theorem State.ownHolding_of_not_present {s : State} (h : s.ownEntry.presence ≠ .present) :
    s.ownHolding = 0 := by
  rw [State.ownHolding, Entry.share, if_neg (Entry.isPresent_iff.not.mpr h)]

/-- Only a PRESENT station holds units. -/
theorem State.present_of_holding {s : State} (h : s.ownHolding ≠ 0) : s.ownEntry.presence = .present :=
  by_contra fun hn => h (State.ownHolding_of_not_present hn)

/-- A level above the allowed one, but no higher than the highest, costs more than the holding (R14). -/
theorem State.holding_lt_of_allowedLevel_lt {s : State} (hupl : 0 < s.cfg.unitsPerLevel) {level : Nat}
    (h : s.allowedLevel < level) (hmax : level ≤ s.cfg.maxLevel) :
    s.ownHolding < level * s.cfg.unitsPerLevel := by
  rw [State.allowedLevel, min_lt_iff] at h
  obtain hlt | hlt := h
  · exact (Nat.div_lt_iff_lt_mul hupl).mp hlt
  · exact absurd hlt (Nat.not_lt.mpr hmax)

section
variable {s : State}

/-- A RELEASE that is due gives back what the want does not need (R53). -/
theorem State.contentAgrees_release (hdue : s.wantUnits < s.ownHolding)
    (hcls : s.ownEntry.cls = s.loader.straps.cls) :
    s.table.contentAgrees s.cfg.budget (s.ownFrame .release) = true := by
  have hpresent := State.present_of_holding (Nat.ne_zero_of_lt hdue)
  have hholding := State.ownHolding_of_present hpresent
  refine (Table.contentAgrees_release_iff rfl).mpr
    ⟨hpresent, hcls.trans (s.classOfRank_ownFrame _).symm, ?_, ?_, ?_, rfl⟩
  · omega
  · exact hholding ▸ Nat.sub_le _ _
  · show s.wantUnits = (s.table.at s.own).holding - (s.ownHolding - s.wantUnits)
    omega

/-- A CLAIM for a target above the allowed level asks for no more than the want and the room (R52). -/
theorem State.contentAgrees_claim (hupl : 0 < s.cfg.unitsPerLevel)
    (hpresent : s.ownEntry.presence = .present) (htarget : s.allowedLevel < s.targetLevel)
    (hcls : s.ownEntry.cls = s.loader.straps.cls) :
    s.table.contentAgrees s.cfg.budget (s.ownFrame .claim) = true := by
  have hholding := State.ownHolding_of_present hpresent
  have hwant : s.targetLevel ≤ s.wantLevel := levelCovered_le _ _ _ _
  have hlack := State.holding_lt_of_allowedLevel_lt hupl htarget (hwant.trans s.wantLevel_le_maxLevel)
  have hcost : s.targetLevel * s.cfg.unitsPerLevel ≤ s.wantUnits := Nat.mul_le_mul_right _ hwant
  have hrank := s.classOfRank_ownFrame .claim
  refine (Table.contentAgrees_claim_iff rfl).mpr ⟨hpresent, hcls.trans hrank.symm, ?_, ?_, ?_, ?_⟩
  · exact Nat.sub_ne_zero_of_lt hlack
  · show (s.table.at s.own).holding + s.claimIncrement ≤ s.wantUnits
    rw [State.claimIncrement]
    omega
  · rw [hrank]
    exact levelCovered_covered _ _ _ _
  · rw [hrank]
    rfl

/-- A plain ANNOUNCE says what the own entry says (R54). -/
theorem State.contentAgrees_plain (hplain : s.line.outbox.announce ≠ some .rejoin)
    (hentry : s.ownEntry.presence = .present →
      s.ownEntry.cls = s.loader.straps.cls ∧ s.ownEntry.floor = s.floorUnits) :
    s.table.contentAgrees s.cfg.budget (s.ownFrame .announce) = true := by
  have hpayload : (s.ownFrame .announce).payload =
      .announce false s.floorUnits s.wantUnits s.ownHolding s.ownDebts := if_neg hplain
  refine (Table.contentAgrees_plain_iff hpayload).mpr ⟨fun hpresent => ?_, fun habsent => ?_⟩
  · obtain ⟨hcls, hfloor⟩ := hentry hpresent
    exact ⟨hcls.trans (s.classOfRank_ownFrame _).symm, hfloor.symm,
      State.ownHolding_of_present hpresent, if_pos (Entry.isPresent_iff.mpr hpresent)⟩
  · exact ⟨State.ownHolding_of_not_present habsent, if_neg (Entry.isPresent_iff.not.mpr habsent)⟩

end

/-- Settles O13: a request that is valid makes a frame that the own table bears out, by its kind. -/
theorem ownFrameFollowsFromTheOwnTable : Obligations.OwnFrameFollowsFromTheOwnTable := by
  intro k c n s hc hranges hn hactive hvalid hentry
  have hupl : 0 < s.cfg.unitsPerLevel := by
    have hcfg : s.cfg = c := by rw [State.cfg, hc]; rfl
    simp only [rangesPass, Bool.and_eq_true, bne_iff_ne, and_assoc] at hranges
    obtain ⟨-, hunits, -⟩ := hranges
    exact hcfg ▸ Nat.pos_of_ne_zero hunits
  rw [Entry.isPresent_iff] at hentry
  refine (State.agreesWith_iff hn).mpr ⟨by simp [State.ownFrame, hn], ?_⟩
  cases k
  case sag => exact Table.contentAgrees_sag rfl
  case evict =>
    refine (Table.contentAgrees_evict_iff rfl).mpr fun hmem => ?_
    obtain ⟨-, hne, -⟩ := Table.mem_silent.mp (Table.silent_of_evictList hmem)
    exact hne rfl
  case release =>
    simp only [State.valid, Bool.and_eq_true, decide_eq_true_eq] at hvalid
    obtain ⟨-, hdue⟩ := hvalid
    have hpresent := State.present_of_holding (Nat.ne_zero_of_lt hdue)
    exact State.contentAgrees_release hdue (hentry hpresent).1
  case claim =>
    simp only [State.valid, State.claimDue, Bool.and_eq_true, decide_eq_true_eq,
      Entry.isPresent_iff, and_assoc] at hvalid
    obtain ⟨-, hpresent, -, -, htarget⟩ := hvalid
    exact State.contentAgrees_claim hupl hpresent htarget (hentry hpresent).1
  case announce =>
    refine State.contentAgrees_plain (fun hrejoin => ?_) hentry
    simp [State.valid, hrejoin, hactive] at hvalid

end Sys2Proof.Machine
end

section
/-! The debt stacks and the settlement walk, record by record (O22, O25; R5, R7, R34). -/

namespace Sys2Proof.Machine

/-! ### Pushes and trims (R5, R7) -/

theorem Table.push_of_not_made {t : Table} {owner creditor : Address} {units : Nat}
    (h : units = 0 ∨ creditor = owner ∨ (t.at creditor).presence = .absent ∨
      4 ≤ t.shedDepth creditor) : t.push owner creditor units = t := by
  refine if_neg fun hmade => ?_
  obtain ⟨hunits, hown, hpresence, hdepth⟩ := Table.pushMade_iff.mp hmade
  obtain h | h | h | h := h
  · exact hunits h
  · exact hown h
  · exact hpresence h
  · exact Nat.not_le.mpr hdepth h

/-- A stack of at most four makes room for one record more. -/
theorem drop_oldest {debts : List DebtRecord} (h : debts.length ≤ 4) :
    debts.drop (debts.length - 3) = if debts.length = 4 then debts.tail else debts := by
  split_ifs with hfull
  · rw [hfull]
    exact List.drop_one
  · rw [show debts.length - 3 = 0 by omega, List.drop_zero]

theorem Table.push_of_made {t : Table} {owner creditor : Address} {units : Nat} (hunits : units ≠ 0)
    (hown : creditor ≠ owner) (hpresence : (t.at creditor).presence ≠ .absent)
    (hdepth : t.shedDepth creditor < 4) (hfour : (t.at owner).debts.length ≤ 4) :
    t.push owner creditor units = t.put owner { t.at owner with debts :=
      (if (t.at owner).debts.length = 4 then (t.at owner).debts.tail else (t.at owner).debts) ++
        [{ creditor := creditor, units := units }] } := by
  rw [← drop_oldest hfour]
  exact if_pos (Table.pushMade_iff.mpr ⟨hunits, hown, hpresence, hdepth⟩)

/-- Nothing is trimmed for no units. -/
theorem trimBy_zero {debts : List DebtRecord} (h : ∀ d ∈ debts, 1 ≤ d.units) :
    trimBy 0 debts = debts := by
  cases debts with
  | nil => rfl
  | cons d ds =>
    have hd := h d List.mem_cons_self
    rw [trimBy, if_neg (by omega), Nat.sub_zero]

theorem trimTo_eq_trimBy {debts : List DebtRecord} (h : ∀ d ∈ debts, 1 ≤ d.units) (holding : Nat) :
    trimTo holding debts = trimBy (owed debts - holding) debts := by
  unfold trimTo
  split_ifs with hle
  · rw [Nat.sub_eq_zero_of_le hle, trimBy_zero h]
  · rfl

/-- A trim removes the oldest records and, it may be, part of the units of the next. -/
theorem trimBy_split {debts : List DebtRecord} (h : ∀ d ∈ debts, 1 ≤ d.units) (n : Nat) :
    ∃ older newer, debts = older ++ newer ∧
      (trimBy n debts = newer ∨
        ∃ d rest u, newer = d :: rest ∧ 0 < u ∧ u < d.units ∧
          trimBy n debts = { d with units := u } :: rest) := by
  induction debts generalizing n with
  | nil => exact ⟨[], [], rfl, .inl rfl⟩
  | cons d ds ih =>
    obtain ⟨hd, hds⟩ := List.forall_mem_cons.mp h
    by_cases hle : d.units ≤ n
    · obtain ⟨older, newer, hsplit, htrim⟩ := ih hds (n - d.units)
      refine ⟨d :: older, newer, by rw [hsplit, List.cons_append], ?_⟩
      rwa [trimBy, if_pos hle]
    · refine ⟨[], d :: ds, rfl, ?_⟩
      rw [trimBy, if_neg hle]
      obtain rfl | hn := Nat.eq_zero_or_pos n
      · exact .inl rfl
      · exact .inr ⟨d, ds, d.units - n, rfl, by omega, by omega, rfl⟩

/-- Settles O22: a push by whether it is made, a trim from the oldest record on. -/
theorem debtStacksArePushedAndTrimmed : Obligations.DebtStacksArePushedAndTrimmed := by
  refine ⟨fun t owner creditor units => ⟨Table.push_of_not_made,
    fun hunits hown hpresence hdepth hfour => ?_⟩, fun holding debts h => ⟨?_, fun hle => if_pos hle, ?_, ?_⟩⟩
  · rw [Table.push_of_made hunits hown hpresence hdepth hfour]
    exact ⟨Table.at_put_self _ _ _, fun a ha => Table.at_put_of_ne ha _ _⟩
  · rw [trimTo_eq_trimBy h, owed_trimBy]
    omega
  · rw [trimTo_eq_trimBy h]
    intro x hx
    obtain ⟨d, hd, -, -, hunits⟩ := exists_of_mem_trimBy hx
    exact hunits (h d hd)
  · rw [trimTo_eq_trimBy h]
    exact trimBy_split h _

/-! ### The walk, record by record (R34) -/

/-- What a settlement list gives a station. -/
def givenTo (a : Address) (list : List Settlement) : Nat :=
  ((list.filter fun x => x.creditor == a).map (·.given)).sum

@[simp] theorem givenTo_nil (a : Address) : givenTo a [] = 0 := rfl

theorem givenTo_cons (a : Address) (x : Settlement) (list : List Settlement) :
    givenTo a (x :: list) = (if x.creditor = a then x.given else 0) + givenTo a list := by
  by_cases h : x.creditor = a <;> simp [givenTo, h]

/-- A gift that is made where it is not 0 raises one holding. -/
theorem Table.at_giveIf (t : Table) (c a : Address) (g : Nat) :
    (if g = 0 then t else t.give c g).at a =
      { t.at a with holding := (t.at a).holding + if c = a then g else 0 } := by
  by_cases hc : c = a
  · subst hc
    rw [if_pos rfl]
    split_ifs with hg
    · rw [hg, Nat.add_zero]
    · exact Table.at_put_self _ _ _
  · rw [if_neg hc]
    split_ifs
    · rfl
    · exact Table.at_put_of_ne (Ne.symm hc) _ _

/-- The room of a creditor, once gifts have been made to it. -/
def Table.roomAfter (t : Table) (a : Address) (given : Nat) : Nat :=
  if (t.at a).presence = .present then (t.at a).want - ((t.at a).holding + given) else 0

theorem Table.room_none (t : Table) (a : Address) : t.room none a = t.roomAfter a 0 := by
  simp [Table.room, Table.roomAfter, Entry.isPresent_iff]

/-- A gift made is a gift the room has seen. -/
theorem Table.roomAfter_giveIf (t : Table) (c a : Address) (g given : Nat) :
    (if g = 0 then t else t.give c g).roomAfter a given =
      t.roomAfter a ((if c = a then g else 0) + given) := by
  rw [Table.roomAfter, Table.at_giveIf, Table.roomAfter]
  simp only [Nat.add_assoc]

/-- An entry of a settlement list: its record, and what is settled and given there (R34). -/
structure Walked (t : Table) (n : Nat) (ds : List DebtRecord) (list : List Settlement) (i : Nat)
    (x : Settlement) : Prop where
  record : ∃ d, ds[i]? = some d ∧ x.creditor = d.creditor ∧
    x.settled = min d.units (n - ((list.take i).map (·.settled)).sum)
  pos : 1 ≤ x.settled
  given : x.given = min x.settled (t.roomAfter x.creditor (givenTo x.creditor (list.take i)))

theorem walk_walked {t : Table} {n : Nat} {ds : List DebtRecord} (h : ∀ d ∈ ds, 1 ≤ d.units) {i : Nat}
    {x : Settlement} (hx : (walk none t n ds).list[i]? = some x) :
    Walked t n ds (walk none t n ds).list i x := by
  induction ds generalizing t n i with
  | nil => simp [walk] at hx
  | cons d ds ih =>
    obtain ⟨hd, hds⟩ := List.forall_mem_cons.mp h
    rw [walk] at hx ⊢
    split_ifs at hx ⊢ with hn
    · simp at hx
    dsimp only at hx ⊢
    cases i with
    | zero =>
      obtain rfl := Option.some.inj hx
      exact ⟨⟨d, rfl, rfl, by simp⟩, by dsimp only; omega, by
        rw [List.take_zero, givenTo_nil, ← Table.room_none]⟩
    | succ i =>
      rw [List.getElem?_cons_succ] at hx
      obtain ⟨⟨d', hd', hcreditor, hsettled⟩, hpos, hgiven⟩ := ih hds hx
      refine ⟨⟨d', hd', hcreditor, ?_⟩, hpos, ?_⟩
      · rw [hsettled, List.take_succ_cons, List.map_cons, List.sum_cons, Nat.sub_sub]
      · rw [hgiven, Table.roomAfter_giveIf, List.take_succ_cons, givenTo_cons]

/-- The walk leaves the stack trimmed by what it settles. -/
theorem walk_left (keepOut : Option Address) (t : Table) (n : Nat) {ds : List DebtRecord}
    (h : ∀ d ∈ ds, 1 ≤ d.units) : (walk keepOut t n ds).left = trimBy n ds := by
  induction ds generalizing t n with
  | nil => rfl
  | cons d ds ih =>
    obtain ⟨hd, hds⟩ := List.forall_mem_cons.mp h
    rw [walk]
    split_ifs with hn
    · rw [hn, trimBy_zero h]
    · dsimp only
      rw [ih _ _ hds, trimBy]
      by_cases hle : d.units ≤ n
      · rw [if_pos (by omega), if_pos hle, Nat.min_eq_left hle]
      · rw [if_neg (by omega), if_neg hle, Nat.min_eq_right (by omega), Nat.sub_self, trimBy_zero hds]

/-- The walk gives nothing to a station that no record names. -/
theorem givenTo_walk_of_not_named {keepOut : Option Address} {t : Table} {n : Nat}
    {ds : List DebtRecord} {a : Address} (h : ∀ d ∈ ds, d.creditor ≠ a) :
    givenTo a (walk keepOut t n ds).list = 0 := by
  induction ds generalizing t n with
  | nil => rfl
  | cons d ds ih =>
    obtain ⟨hd, hds⟩ := List.forall_mem_cons.mp h
    rw [walk]
    split_ifs
    · rfl
    · rw [givenTo_cons, if_neg hd, ih hds]

section
variable {t : Table} (ht : t.Lawful) (keepOut : Option Address) (d : Address) (k : Nat)
include ht

/-- A stack, newest record first, names others for units (R5, R23). -/
theorem Table.Lawful.named_reverse :
    ∀ x ∈ (t.at d).debts.reverse, x.creditor ≠ d ∧ 1 ≤ x.units := fun x hx =>
  (ht.entries d).named x (List.mem_reverse.mp hx)

/-- The debtor's entry after a settlement (R34). -/
theorem Table.Lawful.settled_at_self :
    (t.settled keepOut d k).at d = { t.at d with
      holding := (t.at d).holding - k, debts := (trimBy k (t.at d).debts.reverse).reverse } := by
  have hnamed := ht.named_reverse d
  have hgiven : givenTo d (Machine.walk keepOut t k (t.at d).debts.reverse).list = 0 :=
    givenTo_walk_of_not_named fun x hx => (hnamed x hx).1
  have hleft := walk_left keepOut t k fun x hx => (hnamed x hx).2
  have hat : (t.walkOf keepOut d k).table.at d = { t.at d with holding := (t.at d).holding + 0 } :=
    (walk_table_at_given _ _ _ _ _).trans (congrArg (fun g => { t.at d with
      holding := (t.at d).holding + g }) hgiven)
  unfold Table.settled
  dsimp only
  rw [Table.at_put_self, hat, Table.walkOf, hleft]
  rfl

omit ht in
/-- Any other entry after a settlement. -/
theorem Table.settled_at_of_ne {a : Address} (ha : a ≠ d) :
    (t.settled keepOut d k).at a = { t.at a with
      holding := (t.at a).holding + givenTo a (t.walkOf keepOut d k).list } :=
  (Table.at_put_of_ne ha _ _).trans (walk_table_at_given _ _ _ _ _)

end

/-- Settles O25: the walk record by record, and what it writes entry by entry. -/
theorem releaseRepaysTheNewestDebtsFirst : Obligations.ReleaseRepaysTheNewestDebtsFirst := by
  intro t debtor want k ht hp hk
  have hnamed := ht.named_reverse debtor
  refine ⟨fun i x hx => ?_, ?_, ?_, fun a ha => ?_, Table.held_applyRelease_le hp hk want⟩
  · obtain ⟨⟨d, hd, hcreditor, hsettled⟩, hpos, hgiven⟩ := walk_walked (fun d hd => (hnamed d hd).2) hx
    exact ⟨d, hd, hcreditor, hsettled, hpos, hgiven⟩
  · exact (walk_settled _ _ _ _).trans (by rw [owed_reverse])
  · unfold Table.applyRelease
    dsimp only
    rw [Table.at_put_self, ht.settled_at_self]
  · unfold Table.applyRelease
    dsimp only
    rw [Table.at_put_of_ne ha, Table.settled_at_of_ne none debtor k ha]
    rfl

end Sys2Proof.Machine
end

section
/-! Eviction and the ANNOUNCE, entry by entry (O26, O27; R8, R16, R17, R37, R38, R40, R41, R64 to R66). -/

namespace Sys2Proof.Machine

/-! ### A gift that is dropped (R64 to R66) -/

theorem Table.room_keptOut (t : Table) (c : Address) : t.room (some c) c = 0 := by
  simp [Table.room]

theorem Table.room_of_ne {t u : Table} {a c : Address} (h : a ≠ c) (hat : t.at a = u.at a) :
    t.room (some c) a = u.room none a := by
  simp [Table.room, hat, Ne.symm h]

/-- The address kept out is given nothing. -/
theorem givenTo_keptOut (c : Address) (t : Table) (n : Nat) (ds : List DebtRecord) :
    givenTo c (walk (some c) t n ds).list = 0 := by
  induction ds generalizing t n with
  | nil => rfl
  | cons d ds ih =>
    rw [walk]
    split_ifs
    · rfl
    · rw [givenTo_cons, ih, Nat.add_zero]
      dsimp only
      split_ifs with hc
      · rw [hc, Table.room_keptOut, Nat.min_zero]
      · rfl

/-- Every other address is given what the walk gives it that keeps nobody out: the two tables differ at
the address kept out alone. -/
theorem givenTo_walk_of_ne {a c : Address} (ha : a ≠ c) (ds : List DebtRecord) :
    ∀ (t u : Table) (n : Nat), (∀ b, b ≠ c → t.at b = u.at b) →
      givenTo a (walk (some c) t n ds).list = givenTo a (walk none u n ds).list := by
  induction ds with
  | nil => exact fun _ _ _ _ => rfl
  | cons d ds ih =>
    intro t u n hsame
    by_cases hn : n = 0
    · rw [walk, walk, if_pos hn, if_pos hn]
    rw [walk, walk, if_neg hn, if_neg hn, givenTo_cons, givenTo_cons]
    dsimp only
    by_cases hd : d.creditor = c
    · have hother : d.creditor ≠ a := fun h => ha (h.symm.trans hd)
      rw [if_neg hother, if_neg hother]
      refine congrArg (0 + ·) (ih _ _ _ fun b hb => ?_)
      have hkept : d.creditor ≠ b := fun h => hb (h.symm.trans hd)
      rw [Table.at_giveIf, Table.at_giveIf, if_neg hkept, if_neg hkept, hsame b hb]
    · rw [Table.room_of_ne hd (hsame _ hd)]
      refine congrArg _ (ih _ _ _ fun b hb => ?_)
      rw [Table.at_giveIf, Table.at_giveIf, hsame b hb]

theorem Table.givenTo_walkOf (t : Table) (keepOut : Option Address) (d a : Address) (k : Nat) :
    givenTo a (t.walkOf keepOut d k).list =
      if keepOut = some a then 0 else givenTo a (t.settlementList d k) := by
  cases keepOut with
  | none => rfl
  | some c =>
    by_cases hc : c = a
    · subst hc
      rw [if_pos rfl]
      exact givenTo_keptOut c _ _ _
    · rw [if_neg (fun h => hc (Option.some.inj h))]
      exact givenTo_walk_of_ne (Ne.symm hc) _ _ _ _ fun _ _ => rfl

/-! ### Eviction (R8, R17, R37, R38) -/

theorem Table.evict_of_present {t : Table} {x : Address} (h : (t.at x).presence = .present)
    (keepOut : Option Address) :
    t.evict keepOut x = ((t.fullRelease keepOut x).forgive x).put x (Entry.cleared .absent) := by
  unfold Table.evict
  rw [h]

theorem Table.evict_of_unknown {t : Table} {x : Address} (h : (t.at x).presence = .unknown)
    (keepOut : Option Address) :
    t.evict keepOut x = (t.forgive x).put x (Entry.cleared .absent) := by
  unfold Table.evict
  rw [h]

/-- Another entry after a settlement of the whole holding, and the records that name its debtor removed. -/
theorem Table.forgive_fullRelease_at {t : Table} {x a : Address} (ha : a ≠ x)
    (keepOut : Option Address) :
    ((t.fullRelease keepOut x).forgive x).at a = { t.at a with
      holding := (t.at a).holding +
        if keepOut = some a then 0 else givenTo a (t.settlementList x (t.at x).holding)
      debts := (t.at a).debts.filter fun d => d.creditor != x } := by
  rw [Table.at_forgive, Table.fullRelease, Table.settled_at_of_ne keepOut x _ ha,
    Table.givenTo_walkOf]

/-- An UNKNOWN entry is part of no sum. -/
theorem Table.held_evict_of_unknown {t : Table} {x : Address} (h : (t.at x).presence = .unknown)
    (keepOut : Option Address) : (t.evict keepOut x).held = t.held := by
  rw [Table.evict_of_unknown h]
  refine Table.held_congr fun a => ?_
  by_cases ha : a = x
  · subst ha
    rw [Table.at_put_self, Entry.share_cleared]
    simp [Entry.share, Entry.isPresent, h]
  · rw [Table.at_put_of_ne ha, Table.at_forgive]
    rfl

/-- Settles O26: by the presence of the named entry. -/
theorem evictionSettlesAndClearsTheEntry : Obligations.EvictionSettlesAndClearsTheEntry := by
  refine ⟨fun t keepOut x ht => ⟨fun hp => ⟨?_, fun a ha => ?_, ht.evict keepOut x, ?_⟩,
    fun hu => ⟨?_, fun a ha => ?_, ht.evict keepOut x, ?_⟩, fun habsent => ?_⟩,
    fun t keepOut own xs => t.evictAll_table keepOut own xs⟩
  · exact Table.evict_at_self (by simp [hp]) keepOut
  · rw [Table.evict_of_present hp, Table.at_put_of_ne ha]
    exact Table.forgive_fullRelease_at ha keepOut
  · exact t.held_evict_le keepOut x
  · exact Table.evict_at_self (by simp [hu]) keepOut
  · rw [Table.evict_of_unknown hu, Table.at_put_of_ne ha]
    exact Table.at_forgive _ _ _
  · exact Table.held_evict_of_unknown hu keepOut
  · exact Table.evict_of_absent habsent keepOut

/-! ### ANNOUNCE (R16, R40, R41) -/

theorem Table.applyPlain_of_present {t : Table} {f : Frame} (h : (t.at f.sender).presence = .present)
    (floor want : Nat) :
    t.applyPlain f floor want = t.put f.sender { t.at f.sender with want := want } :=
  if_pos (Entry.isPresent_iff.mpr h)

theorem Table.applyPlain_of_not_present {t : Table} {f : Frame}
    (h : (t.at f.sender).presence ≠ .present) (floor want : Nat) :
    t.applyPlain f floor want = t.put f.sender (f.entry floor want 0) :=
  if_neg (Entry.isPresent_iff.not.mpr h)

theorem Table.applyPlain_at_of_ne (t : Table) {f : Frame} (floor want : Nat) {a : Address}
    (ha : a ≠ f.sender) : (t.applyPlain f floor want).at a = t.at a := by
  unfold Table.applyPlain
  split_ifs <;> exact Table.at_put_of_ne ha _ _

theorem Table.applyRejoin_at_self (t : Table) (keepOut : Option Address) (f : Frame)
    (floor want : Nat) :
    (t.applyRejoin keepOut f floor want).at f.sender = f.entry floor want 0 :=
  Table.at_put_self _ _ _

/-- Another entry at a rejoin: what the settlement of a PRESENT sender gives it (R41, R66). -/
theorem Table.applyRejoin_at_of_ne (t : Table) (keepOut : Option Address) (f : Frame)
    (floor want : Nat) {a : Address} (ha : a ≠ f.sender) :
    (t.applyRejoin keepOut f floor want).at a = { t.at a with
      holding := (t.at a).holding +
        if (t.at f.sender).presence = .present ∧ keepOut ≠ some a then
          givenTo a (t.settlementList f.sender (t.at f.sender).holding)
        else 0
      debts := (t.at a).debts.filter fun d => d.creditor != f.sender } := by
  unfold Table.applyRejoin
  dsimp only
  rw [Table.at_put_of_ne ha]
  by_cases hp : (t.at f.sender).presence = .present
  · rw [if_pos (Entry.isPresent_iff.mpr hp), Table.forgive_fullRelease_at ha]
    by_cases hk : keepOut = some a
    · rw [if_pos hk, if_neg fun h => h.2 hk]
    · rw [if_neg hk, if_pos ⟨hp, hk⟩]
  · rw [if_neg (Entry.isPresent_iff.not.mpr hp), if_neg fun h => hp h.1]
    exact Table.at_forgive _ _ _

/-- Settles O27: by the presence of the sender's entry. -/
theorem announceUpdatesOrCreatesTheEntry : Obligations.AnnounceUpdatesOrCreatesTheEntry := by
  intro t keepOut f floor want
  refine ⟨fun hp => ?_, fun hp => ?_, fun a ha => t.applyPlain_at_of_ne floor want ha,
    fun ht => ⟨t.applyRejoin_at_self keepOut f floor want,
      fun a ha => t.applyRejoin_at_of_ne keepOut f floor want ha, ht.applyRejoin keepOut f floor want,
      t.held_applyRejoin_le keepOut f floor want⟩⟩
  · rw [Table.applyPlain_of_present hp, Table.at_put_self]
  · rw [Table.applyPlain_of_not_present hp, Table.at_put_self]
    rfl

end Sys2Proof.Machine
end

section
/-! The partial rules of GATHER (O28; R61 to R66). -/

namespace Sys2Proof.Machine

/-! ### EVICT: how many entries it takes from PRESENT to ABSENT (R38, R64) -/

theorem Table.presence_settled (t : Table) (keepOut : Option Address) (d a : Address) (k : Nat) :
    ((t.settled keepOut d k).at a).presence = (t.at a).presence := by
  have hwalk : ((t.walkOf keepOut d k).table.at a).presence = (t.at a).presence := by
    show ((walk keepOut t k (t.at d).debts.reverse).table.at a).presence = _
    rw [walk_table_at_given]
  unfold Table.settled
  dsimp only
  rw [Table.at_put]
  split_ifs with ha
  · exact ha ▸ hwalk
  · exact hwalk

/-- An eviction changes no other entry's presence. -/
theorem Table.presence_evict_of_ne {t : Table} {x a : Address} (ha : a ≠ x)
    (keepOut : Option Address) : ((t.evict keepOut x).at a).presence = (t.at a).presence := by
  cases hp : (t.at x).presence with
  | present =>
    rw [Table.evict_of_present hp, Table.at_put_of_ne ha, Table.at_forgive]
    exact t.presence_settled keepOut x a _
  | unknown => rw [Table.evict_of_unknown hp, Table.at_put_of_ne ha, Table.at_forgive]
  | absent => rw [Table.evict_of_absent hp]

theorem Table.isPresent_evict (t : Table) (keepOut : Option Address) (x a : Address) :
    ((t.evict keepOut x).at a).isPresent = (a != x && (t.at a).isPresent) := by
  by_cases ha : a = x
  · subst ha
    rw [bne_self_eq_false, Bool.false_and]
    by_cases hp : (t.at a).presence = .absent
    · rw [Table.evict_of_absent hp]
      simp [Entry.isPresent, hp]
    · rw [Table.evict_at_self hp]
      rfl
  · rw [Entry.isPresent, Table.presence_evict_of_ne ha]
    simp [ha, Entry.isPresent]

/-- Of the stations that a list names first `x` and then `xs`, `x` is counted apart. -/
theorem countP_named_cons (present : Address → Bool) (x : Address) (xs : List Address) :
    addresses.countP (fun a => (x :: xs).contains a && present a) =
      (if present x = true then 1 else 0) +
        addresses.countP (fun a => xs.contains a && (a != x && present a)) := by
  have hfirst : addresses.countP (fun a => (x :: xs).contains a && present a && (a == x)) =
      if present x = true then 1 else 0 := by
    cases hx : present x with
    | true =>
      rw [if_pos rfl, ← List.count_eq_one_of_mem (List.nodup_finRange 32) (mem_addresses x)]
      refine List.countP_congr fun a _ => ?_
      by_cases ha : a = x <;> simp [ha, hx]
    | false =>
      rw [if_neg (by decide), List.countP_eq_zero]
      intro a _
      by_cases ha : a = x <;> simp [ha, hx]
  rw [List.countP_eq_countP_filter_add addresses _ (· == x), List.countP_filter, List.countP_filter,
    hfirst]
  refine congrArg _ (List.countP_congr fun a _ => ?_)
  by_cases ha : a = x <;> simp [ha]

theorem Eviction.count_foldl (keepOut : Option Address) (own : Address) (xs : List Address) :
    ∀ v : Eviction, (xs.foldl (Eviction.next keepOut own) v).count =
      v.count + addresses.countP fun a => xs.contains a && (v.table.at a).isPresent := by
  induction xs with
  | nil => simp
  | cons x xs ih =>
    intro v
    have hcount : (v.next keepOut own x).count =
        v.count + if (v.table.at x).isPresent = true then 1 else 0 := by
      unfold Eviction.next
      split_ifs <;> rfl
    rw [List.foldl_cons, ih, hcount, Eviction.next_table,
      countP_named_cons (fun a => (v.table.at a).isPresent), Nat.add_assoc]
    simp only [Table.isPresent_evict]

/-! ### CLAIM (R62) -/

theorem trimBy_trimBy (m n : Nat) (debts : List DebtRecord) :
    trimBy m (trimBy n debts) = trimBy (n + m) debts := by
  induction debts generalizing n with
  | nil => rfl
  | cons d ds ih =>
    by_cases hle : d.units ≤ n
    · rw [trimBy, if_pos hle, ih, trimBy, if_pos (by omega), Nat.sub_add_comm hle]
    · rw [trimBy, if_neg hle, trimBy, trimBy]
      dsimp only
      by_cases hm : d.units ≤ n + m
      · rw [if_pos (by omega), if_pos hm]
        congr 1
        omega
      · rw [if_neg (by omega), if_neg hm, Nat.sub_sub]

/-- A stack trimmed to two holdings one after the other is trimmed to the lower. -/
theorem trimTo_trimTo {low high : Nat} (h : low ≤ high) (debts : List DebtRecord) :
    trimTo low (trimTo high debts) = trimTo low debts := by
  by_cases hfits : owed debts ≤ high
  · rw [show trimTo high debts = debts from if_pos hfits]
  · have howed : owed (trimTo high debts) = high := by
      rw [trimTo, if_neg hfits, owed_trimBy]
      omega
    obtain rfl | hlt := h.eq_or_lt
    · rw [trimTo, if_pos howed.le]
    · rw [trimTo, if_neg (by omega), howed, trimTo, if_neg hfits, trimBy_trimBy, trimTo,
        if_neg (by omega)]
      congr 1
      omega

theorem Entry.losing_losing (e : Entry) (m n : Nat) : (e.losing m).losing n = e.losing (m + n) := by
  simp only [Entry.losing, Nat.sub_sub, trimTo_trimTo (Nat.sub_le_sub_left (Nat.le_add_right m n) _)]

theorem Entry.losing_zero {e : Entry} (h : owed e.debts ≤ e.holding) : e.losing 0 = e := by
  rw [Entry.losing, Nat.sub_zero, trimTo, if_pos h]

/-- An entry after a victim list: a PRESENT one loses all that the list takes from it. -/
def Table.leftBy (t : Table) (victims : List Victim) (a : Address) : Entry :=
  if (t.at a).presence = .present then
    (t.at a).losing (takenBy (victims.filter fun v => v.victim == a))
  else t.at a

theorem Table.Lawful.at_loseAll {t : Table} (ht : t.Lawful) (victims : List Victim) (a : Address) :
    (victims.foldl Table.lose t).at a = t.leftBy victims a := by
  induction victims generalizing t with
  | nil =>
    rw [Table.leftBy]
    split_ifs
    · exact (Entry.losing_zero (ht.entries a).covered).symm
    · rfl
  | cons v vs ih =>
    rw [List.foldl_cons, ih (ht.lose v), Table.leftBy, Table.leftBy]
    by_cases hv : v.victim = a
    · subst hv
      have htaken : takenBy ((v :: vs).filter fun w => w.victim == v.victim) =
          v.units + takenBy (vs.filter fun w => w.victim == v.victim) := by
        simp [takenBy]
      by_cases hp : (t.at v.victim).presence = .present
      · have hkept : ((t.at v.victim).losing v.units).presence = .present := hp
        rw [Table.at_lose_self hp, htaken, if_pos hkept, if_pos hp, Entry.losing_losing]
      · rw [Table.lose_eq, if_neg (Entry.isPresent_iff.not.mpr hp), if_neg hp, if_neg hp]
    · rw [Table.at_lose_of_ne (Ne.symm hv)]
      simp [hv]

theorem Table.presence_leftBy (t : Table) (victims : List Victim) (a : Address) :
    (t.leftBy victims a).presence = (t.at a).presence := by
  rw [Table.leftBy]
  split_ifs <;> rfl

/-- But for the claimant's, an entry is what the losses leave, whether the claimant is PRESENT or not. -/
theorem Table.Lawful.at_applyClaim_of_ne {t : Table} (ht : t.Lawful) {d a : Address} (ha : a ≠ d)
    (want n : Nat) (victims : List Victim) :
    (t.applyClaim d want n victims).at a = t.leftBy victims a := by
  rw [Table.applyClaim_eq]
  split_ifs
  · rw [Table.at_pushAll_of_ne ha, Table.at_put_of_ne ha, ht.at_loseAll]
  · exact ht.at_loseAll victims a

/-- A claimant that is not PRESENT gains nothing (R62). -/
theorem Table.applyClaim_eq_losses {t : Table} {d : Address} (hp : (t.at d).presence ≠ .present)
    (want n : Nat) (victims : List Victim) :
    t.applyClaim d want n victims = victims.foldl Table.lose t := by
  rw [Table.applyClaim_eq, if_neg]
  rwa [Entry.isPresent_iff, Table.presence_loseAll]

theorem Table.pushAll_claimRecords (t : Table) (d : Address) (victims : List Victim) :
    t.pushAll d (claimRecords victims) = victims.foldl (fun w x => w.push d x.victim x.units) t := by
  rw [Table.pushAll, claimRecords, List.foldl_map]

/-! ### RELEASE (R63) -/

/-- The gifts of a settlement list, taken together. -/
theorem Table.at_gatherGifts (own a : Address) (list : List Settlement) : ∀ t : Table,
    (list.foldl (Table.gatherGift own) t).at a = { t.at a with
      holding := (t.at a).holding +
        if (t.at a).presence = .present ∧ a ≠ own then givenTo a list else 0 } := by
  induction list with
  | nil =>
    intro t
    rw [givenTo_nil, ite_self]
    rfl
  | cons x xs ih =>
    intro t
    rw [List.foldl_cons, ih, Table.at_gatherGift, givenTo_cons]
    by_cases htakes : (t.at a).presence = .present ∧ a ≠ own
    · by_cases hx : x.creditor = a
      · rw [if_pos ⟨hx.symm, Entry.isPresent_iff.mpr htakes.1, htakes.2⟩, if_pos htakes, if_pos htakes,
          if_pos hx]
        dsimp only
        rw [Nat.add_assoc]
      · rw [if_neg fun h => hx h.1.symm, if_pos htakes, if_pos htakes, if_neg hx, Nat.zero_add]
    · rw [if_neg fun h => htakes ⟨Entry.isPresent_iff.mp h.2.1, h.2.2⟩, if_neg htakes, if_neg htakes]

/-- What is left of a record that an entry of a settlement list reduces, or that none does. -/
def DebtRecord.reducedBy (d : DebtRecord) : Option Settlement → Option DebtRecord
  | none => some d
  | some x => if d.units ≤ x.settled then none else some { d with units := d.units - x.settled }

/-- Records, each with whether it has been reduced, after the entries of a list. -/
def reduceMarked (list : List Settlement) (marked : List (DebtRecord × Bool)) :
    List (DebtRecord × Bool) :=
  list.foldl (fun ds x => reduceNewest x.creditor x.settled ds) marked

/-- A record that has been reduced is not reduced again. -/
theorem reduceMarked_cons_done (d : DebtRecord) (list : List Settlement) :
    ∀ ds, reduceMarked list ((d, true) :: ds) = (d, true) :: reduceMarked list ds := by
  induction list with
  | nil => exact fun _ => rfl
  | cons x xs ih =>
    intro ds
    have hfirst : reduceNewest x.creditor x.settled ((d, true) :: ds) =
        (d, true) :: reduceNewest x.creditor x.settled ds := if_neg (by simp)
    rw [reduceMarked, List.foldl_cons, hfirst]
    exact ih _

/-- The first entry that names a record's creditor reduces it; the others act on the older records. -/
theorem reduceMarked_cons (d : DebtRecord) (list : List Settlement) : ∀ ds,
    (reduceMarked list ((d, false) :: ds)).map (·.1) =
      (d.reducedBy (list.find? fun x => x.creditor == d.creditor)).toList ++
        (reduceMarked (list.eraseP fun x => x.creditor == d.creditor) ds).map (·.1) := by
  induction list with
  | nil => exact fun _ => rfl
  | cons x xs ih =>
    intro ds
    rw [reduceMarked, List.foldl_cons, reduceNewest]
    by_cases hx : x.creditor = d.creditor
    · rw [if_pos ⟨hx.symm, rfl⟩, List.find?_cons_of_pos (by simpa using hx),
        List.eraseP_cons_of_pos (by simpa using hx), DebtRecord.reducedBy]
      split_ifs
      · rfl
      · exact congrArg (List.map (·.1)) (reduceMarked_cons_done _ xs ds)
    · rw [if_neg fun h => hx h.1.symm, List.find?_cons_of_neg (by simpa using hx),
        List.eraseP_cons_of_neg (by simpa using hx)]
      exact ih _

/-- Of the entries that name `c`, those of a list less its first that names `e`. -/
theorem filter_eraseP_named (c e : Address) (list : List Settlement) :
    (list.eraseP fun x => x.creditor == e).filter (fun x => x.creditor == c) =
      if e = c then (list.filter fun x => x.creditor == c).tail
      else list.filter fun x => x.creditor == c := by
  induction list with
  | nil => simp
  | cons x xs ih =>
    by_cases hx : x.creditor = e
    · rw [List.eraseP_cons_of_pos (by simpa using hx)]
      split_ifs with hc
      · rw [List.filter_cons_of_pos (by simpa using hx.trans hc), List.tail_cons]
      · rw [List.filter_cons_of_neg (by simpa [hx] using hc)]
    · rw [List.eraseP_cons_of_neg (by simpa using hx), List.filter_cons, List.filter_cons, ih]
      by_cases hc : e = c
      · have hxc : (x.creditor == c) = false := by simpa [← hc] using hx
        rw [if_pos hc, if_pos hc, hxc]
        rfl
      · rw [if_neg hc, if_neg hc]

/-- The entry that falls to the record at place `i`, newest first: its own place among those that name its
creditor. -/
def settlementAt (list : List Settlement) (ds : List DebtRecord) (i : Nat) (d : DebtRecord) :
    Option Settlement :=
  (list.filter fun x => x.creditor == d.creditor)[(ds.take i).countP fun x =>
    x.creditor == d.creditor]?

theorem settlementAt_zero (list : List Settlement) (ds : List DebtRecord) (d : DebtRecord) :
    settlementAt list ds 0 d = list.find? fun x => x.creditor == d.creditor := by
  rw [settlementAt, List.take_zero, List.countP_nil, ← List.head?_eq_getElem?, List.head?_filter]

theorem settlementAt_succ (list : List Settlement) (r : DebtRecord) (ds : List DebtRecord) (i : Nat)
    (d : DebtRecord) : settlementAt list (r :: ds) (i + 1) d =
      settlementAt (list.eraseP fun x => x.creditor == r.creditor) ds i d := by
  rw [settlementAt, settlementAt, List.take_succ_cons, List.countP_cons, filter_eraseP_named]
  by_cases hr : r.creditor = d.creditor
  · rw [if_pos (by simpa using hr), if_pos hr, List.getElem?_tail]
  · rw [if_neg (by simpa using hr), if_neg hr, Nat.add_zero]

/-- The records after a settlement list, newest first. -/
theorem map_reduceMarked (ds : List DebtRecord) : ∀ list,
    (reduceMarked list (ds.map fun d => (d, false))).map (·.1) =
      (List.range ds.length).filterMap fun i =>
        ds[i]?.bind fun d => d.reducedBy (settlementAt list ds i d) := by
  induction ds with
  | nil =>
    intro list
    induction list with
    | nil => rfl
    | cons x xs ih => exact ih
  | cons r ds ih =>
    intro list
    rw [List.map_cons, reduceMarked_cons, ih, List.length_cons, List.range_succ_eq_map,
      List.filterMap_cons, List.filterMap_map]
    simp only [List.getElem?_cons_zero, Option.bind_some, settlementAt_zero, Function.comp_def,
      Nat.succ_eq_add_one, List.getElem?_cons_succ, settlementAt_succ]
    cases r.reducedBy (list.find? fun x => x.creditor == r.creditor) <;> rfl

/-! ### The plain ANNOUNCE (R65) -/

/-- A push names its creditor no more than once more. -/
theorem Table.shedDepth_push_le_add (t : Table) (owner creditor x : Address) (units : Nat) :
    (t.push owner creditor units).shedDepth x ≤
      t.shedDepth x + if creditor = x then 1 else 0 := by
  by_cases hx : creditor = x
  · rw [if_pos hx]
    obtain h | ⟨-, kept, -, hsub, h⟩ := t.push_cases owner creditor units
    · rw [h]
      exact Nat.le_succ _
    · have hput := t.shedDepth_put owner x { t.at owner with debts := kept ++ [⟨creditor, units⟩] }
      have hcount := hsub.countP_le (p := fun d => d.creditor == x)
      have hnaming : Entry.naming { t.at owner with debts := kept ++ [⟨creditor, units⟩] } x ≤
          (t.at owner).naming x + 1 := by
        unfold Entry.naming Entry.isPresent
        dsimp only
        split_ifs
        · simpa [hx] using hcount
        · exact Nat.zero_le _
      rw [h]
      omega
  · rw [if_neg hx, Nat.add_zero]
    exact Table.shedDepth_push_le (Ne.symm hx) t owner units

/-- Records that R5 pushes all, repeated creditors among them: none is refused, and none is lost from the
oldest end. -/
theorem Table.debts_pushAll_of_room (owner : Address) (records : List DebtRecord) : ∀ t : Table,
    (∀ d ∈ records, d.units ≠ 0 ∧ d.creditor ≠ owner ∧ (t.at d.creditor).presence ≠ .absent ∧
      t.shedDepth d.creditor + records.countP (fun x => x.creditor == d.creditor) ≤ 4) →
    (t.at owner).debts.length + records.length ≤ 4 →
    ((t.pushAll owner records).at owner).debts = (t.at owner).debts ++ records := by
  induction records with
  | nil => exact fun t _ _ => (List.append_nil _).symm
  | cons r rs ih =>
    intro t hroom hlen
    obtain ⟨hunits, hown, hpresence, hdepth⟩ := hroom r List.mem_cons_self
    rw [List.length_cons] at hlen
    have hmade : t.pushMade owner r.creditor r.units = true := by
      rw [List.countP_cons_of_pos (by simp)] at hdepth
      exact Table.pushMade_iff.mpr ⟨hunits, hown, hpresence, by omega⟩
    have hpushed : ((t.push owner r.creditor r.units).at owner).debts = (t.at owner).debts ++ [r] := by
      rw [Table.at_push_self, if_pos hmade, Nat.sub_eq_zero_of_le (by omega), List.drop_zero]
    rw [Table.pushAll_cons, ih, hpushed, List.append_assoc, List.singleton_append]
    · intro d hd
      obtain ⟨hunits, hown, hpresence, hdepth⟩ := hroom d (List.mem_cons_of_mem _ hd)
      refine ⟨hunits, hown, by rwa [Table.presence_push], ?_⟩
      have hpush := t.shedDepth_push_le_add owner r.creditor d.creditor r.units
      rw [List.countP_cons] at hdepth
      simp only [beq_iff_eq] at hdepth
      omega
    · rw [hpushed, List.length_append, List.length_singleton]
      omega

theorem Table.gatherPlain_at_self (t : Table) (f : Frame) (floor want holding : Nat)
    (debts : List DebtRecord) :
    (t.gatherPlain f floor want holding debts).at f.sender =
      { f.entry floor want holding with
        debts := trimTo holding
          (((t.put f.sender (f.entry floor want holding)).pushAll f.sender debts).at
            f.sender).debts } := by
  obtain ⟨ds, hat⟩ := (t.put f.sender (f.entry floor want holding)).at_pushAll_self f.sender debts
  rw [Table.gatherPlain_eq, Table.at_put_self, hat, Table.at_put_self]

theorem Table.gatherPlain_at_of_ne (t : Table) (f : Frame) (floor want holding : Nat)
    (debts : List DebtRecord) {a : Address} (ha : a ≠ f.sender) :
    (t.gatherPlain f floor want holding debts).at a = t.at a := by
  rw [Table.gatherPlain_eq, Table.at_put_of_ne ha, Table.at_pushAll_of_ne ha, Table.at_put_of_ne ha]

/-! ### The own entry (R64 to R66) -/

theorem Table.holding_evict_keptOut_le (t : Table) (own x : Address) :
    ((t.evict (some own) x).at own).holding ≤ (t.at own).holding := by
  by_cases hx : own = x
  · subst hx
    by_cases habsent : (t.at own).presence = .absent
    · rw [Table.evict_of_absent habsent]
    · rw [Table.evict_at_self habsent]
      exact Nat.zero_le _
  · cases hp : (t.at x).presence with
    | present =>
      rw [Table.evict_of_present hp, Table.at_put_of_ne hx, Table.forgive_fullRelease_at hx,
        if_pos rfl]
      exact le_rfl
    | unknown =>
      rw [Table.evict_of_unknown hp, Table.at_put_of_ne hx, Table.at_forgive]
    | absent => rw [Table.evict_of_absent hp]

theorem Table.holding_evicts_keptOut_le (own : Address) (xs : List Address) : ∀ t : Table,
    ((xs.foldl (fun u x => u.evict (some own) x) t).at own).holding ≤ (t.at own).holding := by
  induction xs with
  | nil => exact fun _ => le_rfl
  | cons x xs ih => exact fun t => (ih _).trans (t.holding_evict_keptOut_le own x)

theorem Table.holding_lose_le (t : Table) (v : Victim) (a : Address) :
    ((t.lose v).at a).holding ≤ (t.at a).holding := by
  rw [Table.lose_eq]
  split_ifs
  · rw [Table.at_put]
    split_ifs with ha
    · rw [ha]
      exact Nat.sub_le _ _
    · exact le_rfl
  · exact le_rfl

theorem Table.holding_loseAll_le (victims : List Victim) (a : Address) : ∀ t : Table,
    ((victims.foldl Table.lose t).at a).holding ≤ (t.at a).holding := by
  induction victims with
  | nil => exact fun _ => le_rfl
  | cons v vs ih => exact fun t => (ih _).trans (t.holding_lose_le v a)

theorem Table.gatherRelease_at_of_ne (t : Table) (own : Address) {d a : Address} (ha : a ≠ d)
    (want k : Nat) (list : List Settlement) :
    (t.gatherRelease own d want k list).at a = { t.at a with
      holding := (t.at a).holding +
        if (t.at a).presence = .present ∧ a ≠ own then givenTo a list else 0 } := by
  unfold Table.gatherRelease
  dsimp only
  rw [Table.at_gatherGifts]
  by_cases hp : (t.at d).isPresent
  · rw [if_pos hp, Table.at_put_of_ne ha]
  · rw [if_neg hp]

theorem Table.holding_applyGather_own_le (t : Table) {own : Address} {f : Frame}
    (hf : f.sender ≠ own) : ((t.applyGather own f).table.at own).holding ≤ (t.at own).holding := by
  obtain ⟨rank, wait, sender, count, payload⟩ := f
  cases payload with
  | sag => exact le_rfl
  | evict xs =>
    show (((t.evictAll (some own) own xs).table).at own).holding ≤ _
    rw [Table.evictAll_table]
    exact t.holding_evicts_keptOut_le own xs
  | release want k list =>
    show ((t.gatherRelease own sender want k list).at own).holding ≤ _
    rw [Table.gatherRelease_at_of_ne t own (Ne.symm hf), if_neg fun h => h.2 rfl]
    exact le_rfl
  | claim want n victims =>
    show ((t.applyClaim sender want n victims).at own).holding ≤ _
    rw [Table.applyClaim_eq]
    split_ifs
    · rw [Table.at_pushAll_of_ne (Ne.symm hf), Table.at_put_of_ne (Ne.symm hf)]
      exact Table.holding_loseAll_le victims own t
    · exact Table.holding_loseAll_le victims own t
  | announce rejoin floor want holding debts =>
    cases rejoin with
    | true =>
      show ((t.applyRejoin (some own) ⟨rank, wait, sender, count, _⟩ floor want).at own).holding ≤ _
      rw [Table.applyRejoin_at_of_ne t _ _ _ _ (Ne.symm hf), if_neg fun h => h.2 rfl]
      exact le_rfl
    | false =>
      show ((t.gatherPlain ⟨rank, wait, sender, count, _⟩ floor want holding debts).at own).holding ≤ _
      rw [Table.gatherPlain_at_of_ne t _ _ _ _ _ (Ne.symm hf)]

/-! ### The partial rules as a whole -/

/-- The application of each kind is the one its rule names (R62 to R66). -/
theorem Table.applyGather_evict (t : Table) (own : Address) (xs : List Address) :
    (t.evictAll (some own) own xs).table = xs.foldl (fun v x => v.evict (some own) x) t ∧
      (t.evictAll (some own) own xs).count =
        addresses.countP fun a => xs.contains a && (t.at a).isPresent :=
  ⟨t.evictAll_table (some own) own xs,
    (Eviction.count_foldl (some own) own xs _).trans (Nat.zero_add _)⟩

/-- A PRESENT claimant in GATHER: its gain, and its records pushed one after the other. -/
theorem Table.Lawful.applyClaim_claimant {t : Table} (ht : t.Lawful) {d : Address}
    (hp : (t.at d).presence = .present) (want n : Nat) (victims : List Victim) :
    (t.applyClaim d want n victims).at d =
        { (t.leftBy victims d).gaining want n with
          debts := ((t.applyClaim d want n victims).at d).debts } ∧
      ∃ v : Table, v.at d = (t.leftBy victims d).gaining want n ∧
        (∀ a, a ≠ d → v.at a = t.leftBy victims a) ∧
        t.applyClaim d want n victims = victims.foldl (fun w x => w.push d x.victim x.units) v := by
  rw [Table.applyClaim_eq_pushAll hp, ht.at_loseAll]
  refine ⟨?_, _, Table.at_put_self _ _ _, fun a ha => ?_, Table.pushAll_claimRecords _ _ _⟩
  · obtain ⟨ds, hat⟩ := Table.at_pushAll_self
      ((victims.foldl Table.lose t).put d ((t.leftBy victims d).gaining want n)) d (claimRecords victims)
    rw [hat, Table.at_put_self]
  · rw [Table.at_put_of_ne ha, ht.at_loseAll]

/-- A debtor's own entry after its RELEASE (R63). -/
theorem Table.gatherRelease_at_self (t : Table) (own d : Address) (want k : Nat)
    (list : List Settlement) :
    (t.gatherRelease own d want k list).at d =
      if (t.at d).presence = .present then
        { t.at d with
          holding := (t.at d).holding - k + if d ≠ own then givenTo d list else 0
          want := want
          debts := trimTo ((t.at d).holding - k) (reduceAll list (t.at d).debts) }
      else t.at d := by
  unfold Table.gatherRelease
  dsimp only
  rw [Table.at_gatherGifts]
  by_cases hp : (t.at d).presence = .present
  · rw [if_pos (Entry.isPresent_iff.mpr hp), if_pos hp, Table.at_put_self]
    simp only [hp, true_and]
  · rw [if_neg (Entry.isPresent_iff.not.mpr hp), if_neg hp, if_neg fun h => hp h.1]
    rfl

theorem reduceAll_reverse (list : List Settlement) (debts : List DebtRecord) :
    (reduceAll list debts).reverse =
      (List.range debts.length).filterMap fun i =>
        debts.reverse[i]?.bind fun d => d.reducedBy (settlementAt list debts.reverse i d) := by
  rw [reduceAll, List.reverse_reverse, ← List.length_reverse (as := debts)]
  exact map_reduceMarked debts.reverse list

/-- Where R5 pushes every record of the frame, the entry holds them all, trimmed. -/
theorem Table.gatherPlain_debts {t : Table} {f : Frame} {floor want holding : Nat}
    {debts : List DebtRecord}
    (hroom : ∀ d ∈ debts, d.units ≠ 0 ∧ d.creditor ≠ f.sender ∧
      (t.at d.creditor).presence ≠ .absent ∧
      (t.put f.sender (f.entry floor want holding)).shedDepth d.creditor +
        debts.countP (fun x => x.creditor == d.creditor) ≤ 4)
    (hlen : debts.length ≤ 4) :
    ((t.gatherPlain f floor want holding debts).at f.sender).debts = trimTo holding debts := by
  have hpushed := Table.debts_pushAll_of_room f.sender debts
    (t.put f.sender (f.entry floor want holding))
    (fun d hd => by
      obtain ⟨hunits, hown, hpresence, hdepth⟩ := hroom d hd
      exact ⟨hunits, hown, by rwa [Table.at_put_of_ne hown], hdepth⟩)
    (by rw [Table.at_put_self]; exact (Nat.zero_add _).trans_le hlen)
  rw [Table.gatherPlain_at_self]
  dsimp only
  rw [hpushed, Table.at_put_self]
  rfl

/-- Settles O28: one rule after the other. -/
theorem gatherAppliesThePartialRules : Obligations.GatherAppliesThePartialRules := by
  refine ⟨fun t own f => ?_, fun t claimant want n victims ht => ⟨?_, fun hp => ?_, fun hp => ?_⟩,
    fun t own debtor want k list => ⟨?_, fun hp => ?_, fun hp => ?_⟩, fun list debts => ?_,
    fun t f floor want holding debts => ⟨?_, ?_, ?_, ?_⟩,
    fun t own f hf => t.holding_applyGather_own_le hf⟩
  · obtain ⟨rank, wait, sender, count, payload⟩ := f
    cases payload with
    | evict xs => exact ⟨rfl, t.applyGather_evict own xs⟩
    | announce rejoin floor want holding debts => cases rejoin <;> exact ⟨rfl, rfl, rfl⟩
    | _ => exact ⟨rfl, rfl, rfl⟩
  · exact fun a ha => ht.at_applyClaim_of_ne ha want n victims
  · rw [Table.applyClaim_eq_losses hp, ht.at_loseAll, Table.leftBy, if_neg hp]
  · exact ht.applyClaim_claimant hp want n victims
  · exact fun a ha => t.gatherRelease_at_of_ne own ha want k list
  · rw [t.gatherRelease_at_self, if_neg hp]
  · rw [t.gatherRelease_at_self, if_pos hp]
    simp only [hp, true_and, givenTo]
  · exact reduceAll_reverse list debts
  · exact fun a ha => t.gatherPlain_at_of_ne f floor want holding debts ha
  · exact t.gatherPlain_at_self f floor want holding debts
  · exact fun ht _ => ht.gatherPlain f floor want holding debts
  · exact Table.gatherPlain_debts

end Sys2Proof.Machine
end

section
/-! What a frame confirmed in ACTIVE does (O29, O31 to O33; R9, R26 to R42, R70, R72, R97, R99, R111). -/

namespace Sys2Proof.Machine

/-! ### The Demand Unit's decision (R107 to R109) -/

@[simp] theorem State.place_claimDue (s : State) (r : Request) : (s.place r).claimDue = s.claimDue := by
  rw [State.place_eq]
  rfl

theorem State.place_outbox_of_activeRun {s : State} (h : s.activeRun = true) {r : Request}
    (hr : r ≠ .rejoin) : (s.place r).line.outbox = s.line.outbox.add r := by
  have haccepts : s.accepts r = true := by
    cases r with
    | rejoin => contradiction
    | _ => exact h
  rw [State.place_line, if_pos haccepts]

theorem State.activeRun_of_releaseDue {s : State} (h : s.releaseDue = true) : s.activeRun = true :=
  (Bool.and_eq_true_iff.mp h).1

theorem State.activeRun_of_claimDue {s : State} (h : s.claimDue = true) : s.activeRun = true := by
  simp only [State.claimDue, Bool.and_eq_true] at h
  obtain ⟨⟨-, hactive⟩, -⟩ := h
  exact hactive

theorem State.decideDemand_release (s : State) :
    s.decideDemand.line.outbox.release = (s.line.outbox.release || s.releaseDue) := by
  have hplaced : (if s.releaseDue = true then s.place .release else s).line.outbox.release =
      (s.line.outbox.release || s.releaseDue) := by
    split_ifs with hdue
    · rw [State.place_outbox_of_activeRun (State.activeRun_of_releaseDue hdue) (by decide), hdue,
        Bool.or_true]
      rfl
    · rw [Bool.eq_false_iff.mpr hdue, Bool.or_false]
  exact (State.placeDueClaim_has _ (k := .release) (by decide)).trans hplaced

theorem State.decideDemand_claim (s : State) :
    s.decideDemand.line.outbox.claim = (s.line.outbox.claim || s.claimDue) := by
  have hfirst : (if s.releaseDue = true then s.place .release else s).line.outbox.claim =
      s.line.outbox.claim := by
    split_ifs
    · exact State.place_has_of (k := .claim) fun o => o.has_add_release (by decide)
    · rfl
  have hdue : (if s.releaseDue = true then s.place .release else s).claimDue = s.claimDue := by
    split_ifs
    · exact s.place_claimDue _
    · rfl
  unfold State.decideDemand
  dsimp only
  rw [hdue, ← hfirst]
  generalize (if s.releaseDue = true then s.place .release else s) = u at hdue
  split_ifs with hclaim
  · rw [State.place_outbox_of_activeRun (State.activeRun_of_claimDue (hdue.trans hclaim)) (by decide),
      hclaim, Bool.or_true]
    rfl
  · rw [Bool.eq_false_iff.mpr hclaim, Bool.or_false]

@[simp] theorem State.decideDemand_react_releaseDue (s : State) :
    s.decideDemand.react.releaseDue = s.releaseDue := by
  have hdecided : s.decideDemand.releaseDue = s.releaseDue := by
    rw [State.decideDemand_eq]
    rfl
  rw [← hdecided]
  simp [State.releaseDue, State.activeRun, State.wantUnits, State.ownHolding, State.ownEntry]

@[simp] theorem State.decideDemand_react_claimDue (s : State) :
    s.decideDemand.react.claimDue = s.claimDue := by
  have hdecided : s.decideDemand.claimDue = s.claimDue := by
    rw [State.decideDemand_eq]
    rfl
  rw [← hdecided]
  simp [State.claimDue, State.activeRun, State.ownEntry]

theorem State.react_limit (s : State) : s.react.sense.limit = s.sense.limit := by
  have hfollow : s.restPatience.follow.sense.limit = s.restPatience.sense.limit := by
    unfold State.follow
    split_ifs <;> rfl
  unfold State.react
  rw [State.restIdle_sense, hfollow, State.restPatience_sense]

/-! ### What the kinds do beside the table -/

/-- An eviction of the station itself (R39, R72). -/
theorem State.ownEvicted_eq (s : State) :
    s.ownEvicted = { s.raise .evicted with
      line := { s.line with
        outbox := if s.activeRun = true then s.line.outbox.add .plain else s.line.outbox }
      part := { s.part with horizon := .expired, reannouncePending := true } } := by
  unfold State.ownEvicted State.place
  by_cases h : s.activeRun = true
  · refine (if_pos (by exact h)).trans ?_
    rw [if_pos h]
    rfl
  · refine (if_neg (by exact h)).trans ?_
    rw [if_neg h]
    rfl

/-- What a confirmed frame writes in ACTIVE beside the table and the line count: flags, the counters that
no frame's end counts, patience, sag hold, the notes of the participation, and an ANNOUNCE request. -/
structure EffectsOnly (s t : State) : Prop where
  quiet : Quiet s t
  port : SamePort s t
  lineCount : t.lineCount = s.lineCount
  line : t.line = { s.line with outbox := t.line.outbox }
  release : t.line.outbox.release = s.line.outbox.release
  claim : t.line.outbox.claim = s.line.outbox.claim
  window : t.part.windowTimer = s.part.windowTimer
  power : t.power = s.power
  drive : t.drive = s.drive
  lockout : t.sense.lockout = s.sense.lockout
  limit : t.sense.limit = s.sense.limit
  demand : t.demand = { s.demand with patience := t.demand.patience }
  framesConfirmed : t.monitor.counters.framesConfirmed = s.monitor.counters.framesConfirmed
  ownConfirmed : t.monitor.counters.ownConfirmed = s.monitor.counters.ownConfirmed
  framesVoid : t.monitor.counters.framesVoid = s.monitor.counters.framesVoid

theorem EffectsOnly.activeEffects (s : State) (f : Frame) (own eager : Bool) (n : Nat) :
    EffectsOnly s (s.activeEffects f own eager n) := by
  have hquiet := Quiet.activeEffects s f own eager n
  refine ⟨hquiet, ?_, s.activeEffects_lineCount f own eager n, ?_, ?_, ?_, ?_, ?_,
    s.activeEffects_drive f own eager n, ?_, ?_, ?_, ?_, ?_, ?_⟩
  case refine_1 =>
    unfold State.activeEffects
    simp only [State.ownEvicted_eq]
    split
    case h_3 => exact ⟨rfl, rfl, rfl, rfl⟩
    all_goals split_ifs <;> exact ⟨rfl, rfl, rfl, rfl⟩
  all_goals
    unfold State.activeEffects
    simp only [State.ownEvicted_eq]
    split
    case h_3 => rfl
    all_goals split_ifs <;> rfl

theorem EffectsOnly.raiseIf (s : State) (c : Bool) (f : EventFlag) : EffectsOnly s (s.raiseIf c f) := by
  cases c <;> exact ⟨Quiet.raiseIf _ _ _, ⟨rfl, rfl, rfl, rfl⟩, rfl, rfl, rfl, rfl, rfl, rfl, rfl, rfl,
    rfl, rfl, rfl, rfl, rfl⟩

theorem EffectsOnly.trans {s t u : State} (h : EffectsOnly s t) (k : EffectsOnly t u) :
    EffectsOnly s u where
  quiet := h.quiet.trans k.quiet
  port := ⟨k.port.ncsLow.trans h.port.ncsLow, k.port.transaction.trans h.port.transaction,
    k.port.snapshot.trans h.port.snapshot, k.port.miso.trans h.port.miso⟩
  lineCount := k.lineCount.trans h.lineCount
  line := by rw [k.line, h.line]
  release := k.release.trans h.release
  claim := k.claim.trans h.claim
  window := k.window.trans h.window
  power := k.power.trans h.power
  drive := k.drive.trans h.drive
  lockout := k.lockout.trans h.lockout
  limit := k.limit.trans h.limit
  demand := by rw [k.demand, h.demand]
  framesConfirmed := k.framesConfirmed.trans h.framesConfirmed
  ownConfirmed := k.ownConfirmed.trans h.ownConfirmed
  framesVoid := k.framesVoid.trans h.framesVoid

theorem EffectsOnly.applyActive (s : State) (f : Frame) (own : Bool) :
    EffectsOnly (s.adopt (s.table.applyActive s.own f).table f) (s.applyActive f own) :=
  (EffectsOnly.raiseIf _ _ _).trans (.activeEffects _ _ _ _ _)

/-! ### The flags and the counter of evictions -/

theorem State.activeEffects_repaid (s : State) (f : Frame) (own eager : Bool) (n : Nat) :
    (s.activeEffects f own eager n).monitor.flags.repaid = s.monitor.flags.repaid := by
  unfold State.activeEffects
  simp only [State.ownEvicted_eq]
  split
  case h_3 => rfl
  all_goals split_ifs <;> rfl

theorem State.applyActive_repaid (s : State) (f : Frame) (own : Bool) :
    (s.applyActive f own).monitor.flags.repaid =
      (s.monitor.flags.repaid || (s.table.applyActive s.own f).repaid) := by
  rw [State.applyActive, State.activeEffects_repaid]
  cases (s.table.applyActive s.own f).repaid
  · exact (Bool.or_false _).symm
  · exact (Bool.or_true _).symm

theorem State.raiseIf_counters (s : State) (c : Bool) (f : EventFlag) :
    (s.raiseIf c f).monitor.counters = s.monitor.counters := by
  cases c <;> rfl

theorem State.activeEffects_evictEntries_of_evict {f : Frame} {xs : List Address}
    (hf : f.payload = .evict xs) (s : State) (own eager : Bool) (n : Nat) :
    (s.activeEffects f own eager n).monitor.counters.evictEntries =
      min 65535 (s.monitor.counters.evictEntries + n) := by
  simp only [State.activeEffects, hf, State.ownEvicted_eq]
  split_ifs <;> rfl

theorem State.activeEffects_evictEntries_of_ne {f : Frame} (hf : f.payload.kind ≠ .evict) (s : State)
    (own eager : Bool) (n : Nat) : (s.activeEffects f own eager n).monitor.counters.evictEntries =
      s.monitor.counters.evictEntries := by
  unfold State.activeEffects
  cases hp : f.payload with
  | evict xs => exact absurd (by rw [hp]; rfl) hf
  | release => rfl
  | _ =>
    dsimp only
    split_ifs <;> rfl

/-- A RELEASE does nothing beside the table; what it gives the own entry raises REPAID (R35, R36). -/
theorem State.applyActive_flags_release {f : Frame} {want k : Nat} {list : List Settlement}
    (hf : f.payload = .release want k list) (s : State) (own : Bool) :
    (s.applyActive f own).monitor.flags = { s.monitor.flags with
      repaid := s.monitor.flags.repaid || (s.table.applyActive s.own f).repaid } := by
  simp only [State.applyActive, State.activeEffects, hf]
  cases (s.table.applyActive s.own f).repaid
  · rw [Bool.or_false]
    rfl
  · rw [Bool.or_true]
    rfl

/-! ### The counted frame -/

theorem State.counted_port (s : State) (f : Frame) (own : Bool) : SamePort s (s.counted f own) := by
  cases own <;> exact ⟨rfl, rfl, rfl, rfl⟩

theorem State.counted_demand (s : State) (f : Frame) (own : Bool) :
    (s.counted f own).demand = s.demand := by
  cases own <;> rfl

theorem State.counted_windowTimer (s : State) (f : Frame) (own : Bool) :
    (s.counted f own).part.windowTimer = s.part.windowTimer := by
  cases own <;> rfl

theorem State.counted_outbox (s : State) (f : Frame) (own : Bool) :
    (s.counted f own).line.outbox =
      if own = true then s.line.outbox.remove f.payload.kind else s.line.outbox := by
  cases own <;> rfl

/-- The counted frame is at its end, and the fault count has fallen by one (R97, R99). -/
theorem State.counted_ended (s : State) (f : Frame) (own : Bool) :
    (s.counted f own).line.position = .tail ∧ (s.counted f own).line.role = .none ∧
      (s.counted f own).line.drive = .none ∧
      (s.counted f own).line.faultCount = s.line.faultCount - 1 := by
  cases own <;> exact ⟨rfl, rfl, rfl, rfl⟩

/-- The counters that a confirmed frame's end counts, and those it does not (R170). -/
theorem State.counted_counters (s : State) (f : Frame) (own : Bool) :
    (s.counted f own).monitor.counters = { s.monitor.counters with
      framesConfirmed := min 65535 (s.monitor.counters.framesConfirmed + 1)
      ownConfirmed := if own = true then min 65535 (s.monitor.counters.ownConfirmed + 1)
        else s.monitor.counters.ownConfirmed } := by
  cases own <;> rfl

theorem State.isSender_iff {s : State} : s.isSender = true ↔ s.line.role = .sender := by
  simp [State.isSender]

theorem State.counted_has (s : State) (f : Frame) (k : FrameKind) :
    (s.counted f s.isSender).line.outbox.has k = true ↔
      s.line.outbox.has k = true ∧ ¬ (s.line.role = .sender ∧ f.payload.kind = k) := by
  rw [State.counted_outbox, ← State.isSender_iff]
  cases s.isSender
  · simp
  · rw [if_pos rfl, Outbox.has_remove, Bool.and_eq_true, bne_iff_ne, ne_comm]
    simp

/-! ### The application as a whole -/

/-- A frame that follows from the table, before the Demand Unit's decision. -/
def State.afterFrame (s : State) (f : Frame) : State :=
  (s.counted f s.isSender).applyActive f s.isSender

theorem State.confirmActive_of_agrees {s : State} {f : Frame} (h : s.agreesWith f = true) :
    s.confirmActive f s.isSender = (s.afterFrame f).decideDemand.react := by
  rw [State.confirmActive_eq, if_pos h]
  rfl

theorem State.afterFrame_effects (s : State) (f : Frame) :
    EffectsOnly ((s.counted f s.isSender).adopt (s.table.applyActive s.own f).table f)
      (s.afterFrame f) := by
  have hcounted := Quiet.counted s f s.isSender
  have heffects := EffectsOnly.applyActive (s.counted f s.isSender) f s.isSender
  rwa [hcounted.table, hcounted.own] at heffects

/-- What the Demand Unit's decision and the reactions after it leave of a state (R107, R124). -/
theorem State.decideDemand_react_line (s : State) :
    s.decideDemand.react.line = { s.line with outbox := s.decideDemand.line.outbox } := by
  rw [State.react_line, State.decideDemand_line]

theorem State.confirmActive_applies {s : State} {f : Frame} (ack : Bit) (hclocked : s.clocked = true)
    (hactive : s.part.state = .active) (hslot : s.slotFrame = some f)
    (hverdict : s.line.verdict ≠ some .disagree) (hagree : s.agreesWith f = true) :
    exec (.frameConfirmed ack) s = .next (s.afterFrame f).decideDemand.react := by
  rw [exec_frameConfirmed_of_active hclocked hactive hslot hverdict,
    State.confirmActive_of_agrees hagree]

/-- The frame is at its end and counted (R97, R99, R100). -/
theorem State.afterFrame_ended (s : State) (f : Frame) :
    (s.afterFrame f).line.position = .tail ∧ (s.afterFrame f).line.role = .none ∧
      (s.afterFrame f).line.drive = .none ∧
      (s.afterFrame f).line.faultCount = s.line.faultCount - 1 := by
  rw [(s.afterFrame_effects f).line, State.adopt_line]
  exact s.counted_ended f s.isSender

theorem State.afterFrame_has (s : State) (f : Frame) {k : FrameKind}
    (hk : k = .release ∨ k = .claim) : (s.afterFrame f).line.outbox.has k = true ↔
      s.line.outbox.has k = true ∧ ¬ (s.line.role = .sender ∧ f.payload.kind = k) := by
  have he := s.afterFrame_effects f
  have hsame : (s.afterFrame f).line.outbox.has k = (s.counted f s.isSender).line.outbox.has k := by
    obtain rfl | rfl := hk
    · exact he.release
    · exact he.claim
  rw [hsame, State.counted_has]

theorem State.afterFrame_repaid (s : State) (f : Frame) : (s.afterFrame f).monitor.flags.repaid =
    (s.monitor.flags.repaid || (s.table.applyActive s.own f).repaid) := by
  have hcounted := Quiet.counted s f s.isSender
  obtain ⟨hflags, -⟩ := s.counted_keeps f s.isSender
  rw [State.afterFrame, State.applyActive_repaid, hcounted.table, hcounted.own, hflags]

theorem State.afterFrame_flags_release {s : State} {f : Frame} {want k : Nat} {list : List Settlement}
    (hf : f.payload = .release want k list) : (s.afterFrame f).monitor.flags = { s.monitor.flags with
      repaid := s.monitor.flags.repaid || (s.table.applyActive s.own f).repaid } := by
  have hcounted := Quiet.counted s f s.isSender
  obtain ⟨hflags, -⟩ := s.counted_keeps f s.isSender
  rw [State.afterFrame, State.applyActive_flags_release hf, hcounted.table, hcounted.own, hflags]

theorem State.afterFrame_evictEntries {s : State} {f : Frame} {xs : List Address}
    (hf : f.payload = .evict xs) : (s.afterFrame f).monitor.counters.evictEntries =
      min 65535 (s.monitor.counters.evictEntries + (s.table.applyActive s.own f).evicted) := by
  have hcounted := Quiet.counted s f s.isSender
  rw [State.afterFrame, State.applyActive, State.activeEffects_evictEntries_of_evict hf,
    State.raiseIf_counters, State.adopt_monitor, State.counted_counters, hcounted.table, hcounted.own]

theorem State.afterFrame_evictEntries_of_ne {s : State} {f : Frame} (hf : f.payload.kind ≠ .evict) :
    (s.afterFrame f).monitor.counters.evictEntries = s.monitor.counters.evictEntries := by
  rw [State.afterFrame, State.applyActive, State.activeEffects_evictEntries_of_ne hf,
    State.raiseIf_counters, State.adopt_monitor, State.counted_counters]

/-! ### The application of each kind -/

theorem givesTo_iff {a : Address} {list : List Settlement} :
    givesTo a list = true ↔ ∃ x ∈ list, x.creditor = a ∧ 0 < x.given := by
  simp [givesTo]

/-- The table that the eviction at place `i` of a list meets. -/
def Table.evictedBefore (t : Table) (xs : List Address) (i : Nat) : Table :=
  (xs.take i).foldl (fun u x => u.evict none x) t

/-- An eviction gives the own station units where one of its settlements does (R38). -/
theorem Eviction.gave_foldl (own : Address) (xs : List Address) : ∀ v : Eviction,
    (xs.foldl (Eviction.next none own) v).gave = true ↔
      v.gave = true ∨ ∃ i x, xs[i]? = some x ∧
        ((v.table.evictedBefore xs i).at x).presence = .present ∧
        ∃ y ∈ (v.table.evictedBefore xs i).settlementList x
          ((v.table.evictedBefore xs i).at x).holding, y.creditor = own ∧ 0 < y.given := by
  induction xs with
  | nil => simp
  | cons x xs ih =>
    intro v
    have hgave : (v.next none own x).gave = true ↔ v.gave = true ∨
        (v.table.at x).presence = .present ∧
          ∃ y ∈ v.table.settlementList x (v.table.at x).holding, y.creditor = own ∧ 0 < y.given := by
      unfold Eviction.next
      split_ifs with hp
      · rw [Bool.or_eq_true, givesTo_iff, Entry.isPresent_iff] at *
        exact or_congr_right (and_iff_right hp).symm
      · rw [Entry.isPresent_iff] at hp
        simp [hp]
    rw [List.foldl_cons, ih, hgave, Eviction.next_table, or_assoc]
    refine or_congr_right (Iff.trans (or_congr ?_ ?_) Nat.or_exists_add_one)
    · simp [Table.evictedBefore]
    · simp [Table.evictedBefore]

/-- The application of each kind is the one its rule names (R31 to R42). -/
theorem Table.applyActive_evict (t : Table) (own : Address) (xs : List Address) :
    (t.evictAll none own xs).table = t.evictedBefore xs xs.length ∧
      (t.evictAll none own xs).count =
        addresses.countP (fun a => xs.contains a && (t.at a).isPresent) ∧
      ((t.evictAll none own xs).gave = true ↔ ∃ i x, xs[i]? = some x ∧
        ((t.evictedBefore xs i).at x).presence = .present ∧
        ∃ y ∈ (t.evictedBefore xs i).settlementList x ((t.evictedBefore xs i).at x).holding,
          y.creditor = own ∧ 0 < y.given) := by
  refine ⟨?_, (Eviction.count_foldl none own xs _).trans (Nat.zero_add _),
    (Eviction.gave_foldl own xs _).trans (or_iff_right Bool.false_ne_true)⟩
  rw [Table.evictedBefore, List.take_length]
  exact t.evictAll_table none own xs

/-- Settles O29: the counted frame, its application, and the decision after it. -/
theorem confirmedFrameIsAppliedInActive : Obligations.ConfirmedFrameIsAppliedInActive := by
  refine ⟨fun ack f s hclocked hactive hslot hverdict hagree => ?_, fun t own f => ?_⟩
  · have he := s.afterFrame_effects f
    have hcounted := Quiet.counted s f s.isSender
    obtain ⟨hposition, hrole, hdrive, hfault⟩ := s.afterFrame_ended f
    obtain ⟨hflags, -, hsense, hpower⟩ := s.counted_keeps f s.isSender
    have hcounters := s.counted_counters f s.isSender
    have hrepaid := s.afterFrame_repaid f
    have hevict := fun xs => State.afterFrame_evictEntries (s := s) (f := f) (xs := xs)
    have hkept := State.afterFrame_evictEntries_of_ne (s := s) (f := f)
    have hreleased := fun want k list => State.afterFrame_flags_release (s := s) (f := f) (want := want)
      (k := k) (list := list)
    have hrelease := s.afterFrame_has f (.inl rfl)
    have hclaim := s.afterFrame_has f (.inr rfl)
    dsimp only
    refine ⟨_, State.confirmActive_applies ack hclocked hactive hslot hverdict hagree, ?_⟩
    refine ⟨?_, ?_, ?_, ?_, ?_, ?_, ?_, ?_, ?_, ?_, ?_, ?_, ?_, ?_, ?_, ?_, ?_, ?_, ?_, ?_, ?_, ?_, ?_,
      ?_, ?_⟩
    · simp [he.quiet.table]
    · simp [he.lineCount]
    · simp [he.quiet.state, hcounted.state, hactive]
    · simp [he.power, hpower]
    · rw [State.decideDemand_react_line, hposition]
    · rw [State.decideDemand_react_line, hrole]
    · rw [State.decideDemand_react_line, hdrive]
    · rw [State.decideDemand_react_line, hfault]
    · simp [he.framesConfirmed, hcounters]
    · simp [he.ownConfirmed, hcounters, ← State.isSender_iff]
    · simp [he.framesVoid, hcounters]
    · intro xs hf
      simp [hevict xs hf]
    · intro hf
      simp [hkept hf]
    · simp [hrepaid]
    · rw [State.react_line, State.decideDemand_release, Bool.or_eq_true,
        State.decideDemand_react_releaseDue]
      exact or_congr_left hrelease
    · rw [State.react_line, State.decideDemand_claim, Bool.or_eq_true,
        State.decideDemand_react_claimDue]
      exact or_congr_left hclaim
    · intro want k list hf
      simp [hreleased want k list hf]
    · rw [State.react_demand, State.decideDemand_demand, he.demand, State.adopt_demand,
        State.counted_demand]
    · simp [he.lockout, hsense]
    · simp [State.react_limit, he.limit, hsense]
    · simp [State.react_period, he.drive, State.counted_drive]
    · simp [he.window, State.counted_windowTimer]
    · exact State.react_output_le_target _
    · exact (SameSetup.adopt hcounted he.quiet).trans
        ((Quiet.decideDemand _).trans (.react _)).setup
    · have hport := he.port
      have hcport := s.counted_port f s.isSender
      exact ⟨by simp [hport.ncsLow, hcport.ncsLow], by simp [hport.transaction, hcport.transaction],
        by simp [hport.snapshot, hcport.snapshot], by simp [hport.miso, hcport.miso]⟩
  · obtain ⟨rank, wait, sender, count, payload⟩ := f
    cases payload with
    | sag => exact ⟨rfl, rfl, rfl⟩
    | evict xs => exact t.applyActive_evict own xs
    | release want k list => exact ⟨rfl, givesTo_iff, rfl⟩
    | claim want n victims => exact ⟨rfl, rfl, rfl⟩
    | announce rejoin floor want holding debts =>
      cases rejoin with
      | true =>
        exact ⟨rfl, rfl, Bool.and_eq_true_iff.trans (and_congr Entry.isPresent_iff givesTo_iff)⟩
      | false => exact ⟨rfl, rfl, rfl⟩

end Sys2Proof.Machine
end

section
/-! What the kinds of a frame confirmed in ACTIVE do to the station itself (O31 to O33; R33, R39, R70, R72,
R111). -/

namespace Sys2Proof.Machine

/-! ### CLAIM: SHED and patience (R33, R111) -/

theorem listsVictim_iff {a : Address} {victims : List Victim} :
    listsVictim a victims = true ↔ a ∈ victims.map (·.victim) := by
  simp [listsVictim]

theorem State.counted_allowedLevel (s : State) (f : Frame) (own : Bool) :
    (s.counted f own).allowedLevel = s.allowedLevel :=
  State.allowedLevel_congr (Quiet.counted s f own).table (Quiet.counted s f own).loader
    (Quiet.counted s f own).config

theorem State.counted_wantLevel (s : State) (f : Frame) (own : Bool) :
    (s.counted f own).wantLevel = s.wantLevel := by
  obtain ⟨-, -, hsense, -⟩ := s.counted_keeps f own
  exact State.wantLevel_congr (Quiet.counted s f own).config (by rw [s.counted_demand])
    (by rw [s.counted_demand]) (by rw [hsense])

/-- What a CLAIM does beside the table. -/
theorem State.activeEffects_claim {f : Frame} {want n : Nat} {victims : List Victim}
    (hf : f.payload = .claim want n victims) (s : State) (own eager : Bool) (k : Nat) :
    (s.activeEffects f own eager k).monitor =
        (if listsVictim s.own victims = true then (s.raise .shed).count .timesShed 1 else s).monitor ∧
      (s.activeEffects f own eager k).demand.patience =
        if own = true then 0
        else if eager = true then min 3 (s.demand.patience + 1) else s.demand.patience := by
  simp only [State.activeEffects, hf]
  split_ifs <;> exact ⟨rfl, rfl⟩

theorem State.afterFrame_claim {f : Frame} {want n : Nat} {victims : List Victim}
    (hf : f.payload = .claim want n victims) (s : State) :
    (s.afterFrame f).monitor = (if listsVictim s.own victims = true then
        ((s.counted f s.isSender).raise .shed).count .timesShed 1
      else s.counted f s.isSender).monitor ∧
    (s.afterFrame f).demand.patience =
      if s.isSender = true then 0
      else if s.allowedLevel < s.wantLevel then min 3 (s.demand.patience + 1)
      else s.demand.patience := by
  have happlied : s.afterFrame f = ((s.counted f s.isSender).adopt
      ((s.counted f s.isSender).table.applyClaim f.sender want n victims) f).activeEffects f s.isSender
        (decide ((s.counted f s.isSender).allowedLevel < (s.counted f s.isSender).wantLevel)) 0 := by
    simp only [State.afterFrame, State.applyActive, Table.applyActive, hf]
    rfl
  obtain ⟨hmonitor, hpatience⟩ := State.activeEffects_claim hf ((s.counted f s.isSender).adopt
    ((s.counted f s.isSender).table.applyClaim f.sender want n victims) f) s.isSender
    (decide ((s.counted f s.isSender).allowedLevel < (s.counted f s.isSender).wantLevel)) 0
  rw [happlied, hmonitor, hpatience, State.adopt_own, (Quiet.counted s f s.isSender).own,
    State.adopt_demand, State.counted_demand, State.counted_allowedLevel, State.counted_wantLevel]
  refine ⟨?_, by simp only [decide_eq_true_eq]⟩
  split_ifs <;> rfl

/-- Settles O31: the effects of a CLAIM, and patience as the reactions leave it. -/
theorem confirmedClaimShedsAndCountsPatience : Obligations.ConfirmedClaimShedsAndCountsPatience := by
  intro ack f want n victims s hclocked hactive hslot hverdict hagree hf
  obtain ⟨hmonitor, hpatience⟩ := s.afterFrame_claim hf
  obtain ⟨hflags, -⟩ := s.counted_keeps f s.isSender
  have hcounters := s.counted_counters f s.isSender
  have hreacted : (s.afterFrame f).decideDemand.react.demand.patience =
      if (s.afterFrame f).decideDemand.react.wantLevel ≤
        (s.afterFrame f).decideDemand.react.allowedLevel then 0
      else (s.afterFrame f).demand.patience := by
    simp [State.react_demand]
  have hkept : (s.afterFrame f).decideDemand.react.monitor = (s.afterFrame f).monitor := by simp
  refine ⟨_, State.confirmActive_applies ack hclocked hactive hslot hverdict hagree,
    fun hlisted => ?_, fun hlisted => ?_, fun hrest => ?_, fun hother hwant heager => ?_,
    fun hother hwant heager => ?_⟩
  · rw [hkept, hmonitor, if_pos (listsVictim_iff.mpr hlisted), ← hflags]
    refine ⟨rfl, ?_⟩
    show min 65535 ((s.counted f s.isSender).monitor.counters.timesShed + 1) = _
    rw [hcounters]
  · rw [hkept, hmonitor, if_neg (fun h => hlisted (listsVictim_iff.mp h)), hcounters]
    exact ⟨hflags, rfl⟩
  · rw [hreacted]
    split_ifs with hmet
    · rfl
    · rw [hpatience, if_pos (State.isSender_iff.mpr (hrest.resolve_right hmet))]
  · rw [hreacted, if_neg (not_le.mpr hwant), hpatience, if_neg (State.isSender_iff.not.mpr hother),
      if_pos heager]
  · rw [hreacted, if_neg (not_le.mpr hwant), hpatience, if_neg (State.isSender_iff.not.mpr hother),
      if_neg (not_lt.mpr heager)]

/-! ### EVICT of the station itself (R39, R72) -/

/-- Evictions take the addresses they name from PRESENT. -/
theorem Table.isPresent_evicts (keepOut : Option Address) (xs : List Address) (a : Address) :
    ∀ t : Table, ((xs.foldl (fun u x => u.evict keepOut x) t).at a).isPresent =
      (!xs.contains a && (t.at a).isPresent) := by
  induction xs with
  | nil => exact fun _ => rfl
  | cons x xs ih =>
    intro t
    rw [List.foldl_cons, ih, Table.isPresent_evict, List.contains_cons, bne, Bool.not_or,
      Bool.and_left_comm, Bool.and_assoc]

theorem Table.isPresent_heard (t : Table) (a b : Address) :
    ((t.heard a).at b).isPresent = (t.at b).isPresent := by
  rw [Table.at_heard]
  split_ifs with hb
  · exact hb ▸ rfl
  · rfl

theorem State.ownEntry_evicted {f : Frame} {xs : List Address} (hf : f.payload = .evict xs)
    {s : State} (hown : s.own ∈ xs) : (s.afterFrame f).ownEntry.presence ≠ .present := by
  have he := s.afterFrame_effects f
  have hsame : (s.afterFrame f).own = s.own := he.quiet.own.trans (Quiet.counted s f s.isSender).own
  rw [Ne, ← Entry.isPresent_iff, State.ownEntry, hsame, he.quiet.table, State.adopt_table,
    Table.isPresent_heard]
  simp only [Table.applyActive, hf]
  rw [Table.evictAll_table, Table.isPresent_evicts]
  simp [hown]

/-- An entry that is not PRESENT asks for nothing (R108, R109). -/
theorem State.ownHolding_eq_zero {s : State} (h : s.ownEntry.presence ≠ .present) :
    s.ownHolding = 0 := by
  simp [State.ownHolding, Entry.share, Entry.isPresent, h]

theorem State.claimDue_of_not_present {s : State} (h : s.ownEntry.presence ≠ .present) :
    s.claimDue = false := by
  simp [State.claimDue, Entry.isPresent, h]

theorem State.decideDemand_of_not_activeRun {s : State} (h : s.activeRun = false) :
    s.decideDemand = s := by
  have hrelease : ¬ s.releaseDue = true := by simp [State.releaseDue, h]
  have hclaim : ¬ s.claimDue = true := by simp [State.claimDue, h]
  unfold State.decideDemand
  dsimp only
  rw [if_neg hrelease, if_neg hclaim]

/-- What an EVICT that names the station does beside the table. -/
theorem State.afterFrame_ownEvicted {f : Frame} {xs : List Address} (hf : f.payload = .evict xs)
    {s : State} (hown : s.own ∈ xs) : ∃ u : State, s.afterFrame f = u.ownEvicted ∧
      u.line = (s.counted f s.isSender).line ∧ u.activeRun = (s.counted f s.isSender).activeRun := by
  have hsame := (Quiet.counted s f s.isSender).own
  refine ⟨State.count (State.raiseIf ((s.counted f s.isSender).adopt
    ((s.counted f s.isSender).table.evictAll none s.own xs).table f)
    ((s.counted f s.isSender).table.evictAll none s.own xs).gave .repaid) .evictEntries
    ((s.counted f s.isSender).table.evictAll none s.own xs).count, ?_, ?_, ?_⟩
  · have hnamed : xs.contains s.own = true := by simpa using hown
    simp only [State.afterFrame, State.applyActive, Table.applyActive, State.activeEffects, hf, hsame,
      State.raiseIf_own, State.adopt_own]
    rw [if_pos hnamed]
  · simp
  · simp [State.activeRun]

/-- Settles O32: what the eviction writes, and what follows from an own entry that is not PRESENT. -/
theorem ownEvictionCutsAndReannounces : Obligations.OwnEvictionCutsAndReannounces := by
  intro ack f xs s hclocked hactive hslot hrole hverdict hagree hf hown
  have hreceiver : s.isSender = false := by simp [State.isSender, hrole]
  have hrun : (s.counted f s.isSender).activeRun = true ↔ s.power.state = .run := by
    obtain ⟨-, -, -, hpower⟩ := s.counted_keeps f s.isSender
    rw [State.activeRun_iff, (Quiet.counted s f s.isSender).state, hpower, and_iff_right hactive]
  have habsent := State.ownEntry_evicted hf hown
  obtain ⟨u, hu, hline, hactiveRun⟩ := State.afterFrame_ownEvicted hf hown
  have hactivity : (s.afterFrame f).activeRun = u.activeRun := by
    rw [hu, State.ownEvicted_eq]
    rfl
  have hentry : (s.afterFrame f).decideDemand.react.ownEntry.presence ≠ .present := by
    simpa [State.ownEntry] using habsent
  have hallowed := State.allowedLevel_eq_zero hentry
  refine ⟨_, State.confirmActive_applies ack hclocked hactive hslot hverdict hagree, ?_, hentry,
    State.ownHolding_eq_zero hentry, hallowed, ?_, ?_, ?_, ?_, State.claimDue_of_not_present hentry,
    fun hpower => ?_, fun hpower => ?_⟩
  · rw [State.react_part, State.decideDemand_part, (s.afterFrame_effects f).quiet.state,
      State.adopt_part, (Quiet.counted s f s.isSender).state, hactive]
  · exact Nat.le_zero.mp (hallowed ▸ (State.react_output_le_target _).trans
      (State.target_le_allowedLevel _))
  · rw [State.react_monitor, State.decideDemand_monitor, hu, State.ownEvicted_eq]
    rfl
  · rw [State.react_part, State.decideDemand_part, hu, State.ownEvicted_eq]
  · rw [State.react_part, State.decideDemand_part, hu, State.ownEvicted_eq]
  · have hplaced : (s.afterFrame f).line.outbox.has .announce = true := by
      rw [hu, State.ownEvicted_eq, if_pos (hactiveRun.trans (hrun.mpr hpower))]
      rfl
    rw [State.react_line, ← Option.isSome_iff_ne_none]
    exact State.decideDemand_has hplaced
  · have hidle : u.activeRun = false := by
      rw [hactiveRun]
      exact Bool.eq_false_iff.mpr fun h => hpower (hrun.mp h)
    rw [State.react_line, State.decideDemand_of_not_activeRun (hactivity.trans hidle), hu,
      State.ownEvicted_eq, if_neg (by rw [hidle]; decide), hline, State.counted_outbox, hreceiver]
    rfl

/-! ### The own plain ANNOUNCE (R16, R70, R72) -/

/-- The sender of a plain ANNOUNCE is PRESENT with the want it carries (R16, R40). -/
theorem Table.applyPlain_sender (t : Table) (f : Frame) (floor want : Nat) :
    ((t.applyPlain f floor want).at f.sender).presence = .present ∧
      ((t.applyPlain f floor want).at f.sender).want = want := by
  by_cases hp : (t.at f.sender).presence = .present
  · rw [Table.applyPlain_of_present hp, Table.at_put_self]
    exact ⟨hp, rfl⟩
  · rw [Table.applyPlain_of_not_present hp, Table.at_put_self]
    exact ⟨rfl, rfl⟩

theorem State.afterFrame_ownPlain {f : Frame} {floor want holding : Nat} {debts : List DebtRecord}
    (hf : f.payload = .announce false floor want holding debts) {s : State}
    (hsender : s.isSender = true) : s.afterFrame f =
      { (s.counted f true).adopt (s.table.applyPlain f floor want) f with
        part := { (s.counted f true).part with announceTimer := 0, reannouncePending := false } } := by
  simp only [State.afterFrame, State.applyActive, Table.applyActive, State.activeEffects, hf, hsender,
    (Quiet.counted s f true).table]
  rfl

/-- Settles O33: the application of the plain ANNOUNCE, and the own request gone. -/
theorem ownAnnounceRestartsItsTimer : Obligations.OwnAnnounceRestartsItsTimer := by
  intro ack f floor want holding debts s hclocked hactive hslot hself hrole hverdict hagree hf
  have hsender := State.isSender_iff.mpr hrole
  have happlied := State.afterFrame_ownPlain hf hsender
  obtain ⟨hpresent, hwant⟩ := s.table.applyPlain_sender f floor want
  have hentry : (s.afterFrame f).decideDemand.react.ownEntry =
      { (s.table.applyPlain f floor want).at f.sender with age := 0 } := by
    have hown : (s.afterFrame f).own = f.sender := by
      rw [happlied, hself]
      exact (Quiet.counted s f true).own
    simp only [State.ownEntry, State.react_own, State.react_table, State.decideDemand_own,
      State.decideDemand_table, hown]
    rw [happlied, State.adopt_table, Table.at_heard, if_pos rfl]
  refine ⟨_, State.confirmActive_applies ack hclocked hactive hslot hverdict hagree, ?_, ?_, ?_, ?_,
    by rw [hentry]; exact hpresent, by rw [hentry]; exact hwant, by rw [hentry]⟩
  · rw [State.react_part, State.decideDemand_part, happlied]
  · rw [State.react_part, State.decideDemand_part, happlied]
  · rw [State.react_part, State.decideDemand_part, happlied]
    rfl
  · have hgone : (s.afterFrame f).line.outbox.has .announce = false := by
      rw [happlied]
      show (s.line.outbox.remove f.payload.kind).has .announce = false
      rw [hf]
      rfl
    rw [State.react_line, ← Option.not_isSome_iff_eq_none, Bool.not_eq_true]
    exact (State.decideDemand_has_of (k := .announce) (by decide) nofun).trans hgone

end Sys2Proof.Machine
end

section
/-! The outcomes of a frame in GATHER and in MUTE, and the void frame (O35 to O38; R59, R61, R64, R66, R67,
R69, R73, R75, R79, R97 to R100). -/

namespace Sys2Proof.Machine

/-! ### What an outcome's entries leave -/

theorem SamePort.of_monitor {s t : State} {f : EventFlags} {c : Counters}
    (h : t.monitor = { s.monitor with flags := f, counters := c }) : SamePort s t := by
  constructor <;> rw [h]

/-- GATHER entry and its reactions: the setup, the port, the counters, and the line but for the outbox
(R60). -/
theorem State.enterGather_react_keeps (u : State) (stale : Bool) :
    SameSetup u (u.enterGather stale).react ∧ SamePort u (u.enterGather stale).react ∧
      (u.enterGather stale).react.monitor.counters = u.monitor.counters ∧
      (u.enterGather stale).react.line = { u.line with outbox := Outbox.empty } := by
  have hmonitor := u.enterGather_monitor stale
  refine ⟨by constructor <;> simp, ?_, ?_, by rw [State.react_line, State.enterGather_line]⟩
  · cases stale <;> exact .of_monitor (by rw [State.react_monitor, hmonitor]; rfl)
  · rw [State.react_monitor, hmonitor, State.raiseIf_counters]

/-! ### The effects in GATHER and in MUTE (R64, R66, R75) -/

/-- A CLAIM lists a station among its victims. -/
def Payload.sheds (a : Address) : Payload → Bool
  | .claim _ _ victims => (victims.map (·.victim)).contains a
  | .sag | .evict _ | .release _ _ _ | .announce _ _ _ _ _ => false

/-- An EVICT names a station. -/
def Payload.evicts (a : Address) : Payload → Bool
  | .evict xs => xs.contains a
  | .sag | .claim _ _ _ | .release _ _ _ | .announce _ _ _ _ _ => false

theorem listsVictim_eq (a : Address) (victims : List Victim) :
    listsVictim a victims = (victims.map (·.victim)).contains a := by
  rw [Bool.eq_iff_iff, listsVictim_iff]
  simp

/-- What a frame confirmed in GATHER writes beside the table: SHED and EVICTED with the horizon, and the
counters of its kind (R64, R66). -/
def State.gatherMarked (s : State) (shed named : Bool) (evictEntries : Nat) : State :=
  { s with
    part := { s.part with horizon := if named = true then .expired else s.part.horizon }
    monitor := { s.monitor with
      flags := { s.monitor.flags with
        shed := s.monitor.flags.shed || shed, evicted := s.monitor.flags.evicted || named }
      counters := { s.monitor.counters with
        timesShed := if shed = true then min 65535 (s.monitor.counters.timesShed + 1)
          else s.monitor.counters.timesShed
        evictEntries := evictEntries } } }

theorem State.gatherEffects_eq (s : State) (f : Frame) (n : Nat) : s.gatherEffects f n =
    s.gatherMarked (f.payload.sheds s.own) (f.payload.evicts s.own)
      (if f.payload.kind = .evict then min 65535 (s.monitor.counters.evictEntries + n)
        else s.monitor.counters.evictEntries) := by
  unfold State.gatherEffects
  cases f.payload with
  | evict xs =>
    dsimp only [Payload.sheds, Payload.evicts, Payload.kind]
    cases xs.contains s.own <;>
      simp [State.gatherMarked, State.raise, State.count, EventFlags.raise, Counters.rise, risen]
  | claim want k victims =>
    dsimp only [Payload.sheds, Payload.evicts, Payload.kind]
    rw [listsVictim_eq]
    cases (victims.map (·.victim)).contains s.own <;>
      simp [State.gatherMarked, State.raise, State.count, EventFlags.raise, Counters.rise, risen]
  | _ => simp [State.gatherMarked, Payload.sheds, Payload.evicts, Payload.kind]

/-! ### FRAME_CONFIRMED in GATHER (R61, R67, R69) -/

theorem exec_frameConfirmed_of_gather {s : State} {f : Frame} {phase : GatherPhase}
    (hclocked : s.clocked = true) (hgather : s.part.state = .gather phase)
    (hslot : s.slotFrame = some f) (hverdict : s.line.verdict ≠ some .disagree) (ack : Bit) :
    exec (.frameConfirmed ack) s = .next (s.confirmGather f s.isSender) := by
  simp [exec, execFrameConfirmed, hslot, hclocked, hverdict, hgather]

/-- A counted frame as R79, R97 and R99 leave the station, but for the counters and the line's own
registers. -/
def State.countedStation (s : State) : State :=
  { s with
    line := { s.line with faultCount := s.line.faultCount - 1 }
    part := { s.part with
      horizon := if s.line.role = .sender then .counting 0 else s.part.horizon } }

theorem State.counted_part (s : State) (f : Frame) :
    (s.counted f s.isSender).part = s.countedStation.part := by
  unfold State.countedStation
  by_cases hrole : s.line.role = .sender
  · rw [State.isSender_iff.mpr hrole, if_pos hrole]
    rfl
  · rw [Bool.eq_false_iff.mpr (State.isSender_iff.not.mpr hrole), if_neg hrole]
    rfl

theorem State.counted_sameStation (s : State) (f : Frame) :
    SameStation s.countedStation (s.counted f s.isSender) := by
  obtain ⟨hflags, -, hsense, hpower⟩ := s.counted_keeps f s.isSender
  exact ⟨s.counted_part f, (Quiet.counted s f _).table, s.counted_lineCount f _,
    s.counted_demand f _, by rw [hsense]; rfl, by rw [hsense]; rfl, by rw [hpower]; rfl, hflags⟩

/-- Within the budget: what is counted, adopted, marked and, at the own rejoin, made ACTIVE, before the
Demand Unit's decision. -/
def State.gathered (s : State) (f : Frame) : State :=
  ((((s.counted f s.isSender).adopt (s.table.applyGather s.own f).table f).gatherEffects f
    (s.table.applyGather s.own f).evicted).rejoinedIf s.isSender)

theorem State.rejoinedIf_part (s : State) (own : Bool) : (s.rejoinedIf own).part = { s.part with
    state := if own = true then .active else s.part.state
    announceTimer := if own = true then 0 else s.part.announceTimer } := by
  cases own <;> rfl

/-- But for the participation a rejoin leaves the station as it was. -/
theorem State.rejoinedIf_rest (s : State) (own : Bool) : (s.rejoinedIf own).monitor = s.monitor ∧
    (s.rejoinedIf own).line = s.line ∧ (s.rejoinedIf own).lineCount = s.lineCount := by
  cases own <;> exact ⟨rfl, rfl, rfl⟩

theorem State.gathered_monitor (s : State) (f : Frame) : (s.gathered f).monitor = { s.monitor with
    flags := { s.monitor.flags with
      shed := s.monitor.flags.shed || f.payload.sheds s.own
      evicted := s.monitor.flags.evicted || f.payload.evicts s.own }
    counters := { s.monitor.counters with
      framesConfirmed := min 65535 (s.monitor.counters.framesConfirmed + 1)
      ownConfirmed := if s.isSender = true then min 65535 (s.monitor.counters.ownConfirmed + 1)
        else s.monitor.counters.ownConfirmed
      timesShed := if f.payload.sheds s.own = true then min 65535 (s.monitor.counters.timesShed + 1)
        else s.monitor.counters.timesShed
      evictEntries := if f.payload.kind = .evict then
          min 65535 (s.monitor.counters.evictEntries + (s.table.applyGather s.own f).evicted)
        else s.monitor.counters.evictEntries } } := by
  obtain ⟨hmonitor, -⟩ := State.rejoinedIf_rest
    (((s.counted f s.isSender).adopt (s.table.applyGather s.own f).table f).gatherEffects f
      (s.table.applyGather s.own f).evicted) s.isSender
  rw [State.gathered, hmonitor, State.gatherEffects_eq, State.adopt_own,
    (Quiet.counted s f s.isSender).own]
  cases s.isSender <;> rfl

theorem State.gathered_part (s : State) (f : Frame) : (s.gathered f).part = { s.part with
    state := if s.isSender = true then .active else s.part.state
    announceTimer := if s.isSender = true then 0 else s.part.announceTimer
    horizon := if f.payload.evicts s.own = true then .expired else s.countedStation.part.horizon } := by
  rw [State.gathered, State.rejoinedIf_part, State.gatherEffects_eq, State.adopt_own,
    (Quiet.counted s f s.isSender).own]
  simp only [State.gatherMarked, State.adopt_part, State.counted_part]
  rfl

theorem State.gathered_line (s : State) (f : Frame) :
    (s.gathered f).line = (s.counted f s.isSender).line ∧
      (s.gathered f).lineCount = some f.lineCount ∧
      (s.gathered f).table = (s.table.applyGather s.own f).table.heard f.sender := by
  obtain ⟨-, hline, hcount⟩ := State.rejoinedIf_rest
    (((s.counted f s.isSender).adopt (s.table.applyGather s.own f).table f).gatherEffects f
      (s.table.applyGather s.own f).evicted) s.isSender
  obtain ⟨-, htable, -⟩ := State.rejoinedIf_keeps
    (((s.counted f s.isSender).adopt (s.table.applyGather s.own f).table f).gatherEffects f
      (s.table.applyGather s.own f).evicted) s.isSender
  refine ⟨hline.trans ?_, hcount.trans ?_, htable.trans ?_⟩ <;> rw [State.gatherEffects_eq] <;> rfl

/-- HALTED with cause BUDGET, above the budget (R67). -/
theorem State.confirmGather_halts (s : State) (f : Frame) :
    EntersHalted .budget s.countedStation ((s.counted f s.isSender).enterHalted .budget).react ∧
      SameTable s ((s.counted f s.isSender).enterHalted .budget).react ∧
      SameSetup s ((s.counted f s.isSender).enterHalted .budget).react ∧
      SamePort s ((s.counted f s.isSender).enterHalted .budget).react := by
  have hquiet := Quiet.counted s f s.isSender
  obtain ⟨-, -, -, hfault⟩ := s.counted_ended f s.isSender
  have hentered : Quiet ((s.counted f s.isSender).enterHalted .budget)
      ((s.counted f s.isSender).enterHalted .budget).react := .react _
  refine ⟨(s.counted_sameStation f).entersHalted (.of_drive (s.counted_drive f _)) hfault _,
    ⟨by simp [hquiet.table], by simp⟩, hquiet.setup.trans ⟨by simp, by simp, by simp, by simp⟩, ?_⟩
  obtain ⟨hncs, htransaction, hsnapshot, hmiso⟩ := s.counted_port f s.isSender
  constructor <;> simp [State.enterHalted_monitor, hncs, htransaction, hsnapshot, hmiso]

/-- Settles O35: above the budget HALTED; within it the counted frame, its application and its marks. -/
theorem confirmedFrameInGather : Obligations.ConfirmedFrameInGather := by
  intro ack phase f s hclocked hgather hslot hverdict
  have hexec := exec_frameConfirmed_of_gather hclocked hgather hslot hverdict ack
  rw [State.confirmGather_eq] at hexec
  refine ⟨fun habove => ?_, fun hwithin => ?_⟩
  · rw [if_pos habove] at hexec
    exact ⟨_, hexec, s.confirmGather_halts f⟩
  · rw [if_neg (not_lt.mpr hwithin)] at hexec
    have hmonitor := s.gathered_monitor f
    have hpart := s.gathered_part f
    obtain ⟨hline, hcount, htable⟩ := s.gathered_line f
    obtain ⟨hposition, -, -, hfault⟩ := s.counted_ended f s.isSender
    have hrest : (s.gathered f).decideDemand.react.monitor = (s.gathered f).monitor ∧
        (s.gathered f).decideDemand.react.part = (s.gathered f).part := ⟨by simp, by simp⟩
    obtain ⟨hkept, hstays⟩ := hrest
    refine ⟨(s.gathered f).decideDemand.react, hexec, by simp [htable], by simp [hcount], ?_, ?_, ?_, ?_,
      ?_, fun xs hf => ?_, fun hf => ?_, ?_, fun hrole => ?_, fun hrole => ?_,
      State.react_output_le_target _, ?_, .of_monitor (hkept.trans hmonitor)⟩
    · rw [State.decideDemand_react_line, hline, hposition]
    · rw [State.decideDemand_react_line, hline, hfault]
    · rw [hkept, hmonitor]
    · rw [hkept, hmonitor]
      rfl
    · rw [hkept, hmonitor]
      rfl
    · rw [hkept, hmonitor]
      exact if_pos (by rw [hf]; rfl)
    · rw [hkept, hmonitor]
      exact if_neg hf
    · rw [hstays, hpart]
      rfl
    · rw [hstays, hpart, if_pos (State.isSender_iff.mpr hrole), if_pos (State.isSender_iff.mpr hrole)]
      exact ⟨rfl, rfl⟩
    · rw [hstays, hpart, if_neg (State.isSender_iff.not.mpr hrole),
        if_neg (State.isSender_iff.not.mpr hrole)]
      exact ⟨rfl, rfl⟩
    · obtain ⟨hsetup, -⟩ := State.rejoinedIf_keeps
        (((s.counted f s.isSender).adopt (s.table.applyGather s.own f).table f).gatherEffects f
          (s.table.applyGather s.own f).evicted) s.isSender
      exact ((SameSetup.adopt (Quiet.counted s f _) (Quiet.gatherEffects _ f _)).trans hsetup).trans
        ((Quiet.decideDemand _).trans (.react _)).setup

/-! ### FRAME_CONFIRMED in MUTE (R75) -/

/-- The note of an eviction recognised in MUTE. -/
def State.evictionNoted (s : State) (named : Bool) : State :=
  if named = true then
    { s with
      part := { s.part with horizon := .expired, evictedInMute := true }
      monitor := { s.monitor with flags := { s.monitor.flags with evicted := true } } }
  else s

theorem State.recogniseEviction_eq (s : State) (f : Frame) :
    s.recogniseEviction f = s.evictionNoted (f.payload.evicts s.own) := by
  unfold State.recogniseEviction
  cases f.payload with
  | evict xs =>
    dsimp only [Payload.evicts]
    cases xs.contains s.own <;> rfl
  | _ => rfl

/-- A frame counted and then noted stands as one noted, but for the line and the counters. -/
theorem State.evictionNoted_counted (s : State) (f : Frame) (named : Bool) :
    SameStation (s.evictionNoted named) ((s.counted f false).evictionNoted named) := by
  cases named <;> exact ⟨rfl, rfl, rfl, rfl, rfl, rfl, rfl, rfl⟩

theorem State.evictionNoted_keeps (s : State) (named : Bool) : SameSetup s (s.evictionNoted named) ∧
    SamePort s (s.evictionNoted named) ∧ SameTable s (s.evictionNoted named) ∧
      (s.evictionNoted named).line = s.line ∧ (s.evictionNoted named).part.state = s.part.state := by
  cases named <;> exact ⟨⟨rfl, rfl, rfl, rfl⟩, ⟨rfl, rfl, rfl, rfl⟩, ⟨rfl, rfl⟩, rfl, rfl⟩

theorem State.evictionNoted_own (s : State) (named : Bool) : (s.evictionNoted named).own = s.own := by
  cases named <;> rfl

theorem SamePort.trans {s t u : State} (h : SamePort s t) (k : SamePort t u) : SamePort s u :=
  ⟨k.ncsLow.trans h.ncsLow, k.transaction.trans h.transaction, k.snapshot.trans h.snapshot,
    k.miso.trans h.miso⟩

theorem SameTable.trans {s t u : State} (h : SameTable s t) (k : SameTable t u) : SameTable s u :=
  ⟨k.table.trans h.table, k.lineCount.trans h.lineCount⟩

theorem State.react_port (s : State) : SamePort s s.react := by constructor <;> simp

theorem State.react_sameTable (s : State) : SameTable s s.react := ⟨by simp, by simp⟩

/-- What a completed frame in MUTE leads to, from a station `u` that differs from `s` in the line and the
counters alone: MUTE, or GATHER at a fault count of 4 or less (R75). -/
theorem SameStation.leavesMute {s u : State} (h : SameStation s u) (hown : u.own = s.own)
    (hmute : u.part.state = .mute) :
    SameSetup u u.leaveMute.react ∧ SamePort u u.leaveMute.react ∧
      u.leaveMute.react.monitor.counters = u.monitor.counters ∧
      u.leaveMute.react.line.position = u.line.position ∧
      u.leaveMute.react.line.faultCount = u.line.faultCount ∧
      (4 < u.line.faultCount → SameTable s u.leaveMute.react ∧ u.leaveMute.react.part = s.part ∧
        u.leaveMute.react.monitor.flags = s.monitor.flags) ∧
      (u.line.faultCount ≤ 4 → EntersGather false s u.leaveMute.react) := by
  by_cases hleaves : u.line.faultCount ≤ 4
  · have hentered : u.leaveMute = u.enterGather false := if_pos ⟨hmute, hleaves⟩
    obtain ⟨hsetup, hport, hcounters, hline⟩ := u.enterGather_react_keeps false
    rw [hentered]
    exact ⟨hsetup, hport, hcounters, by rw [hline], by rw [hline],
      fun hstays => absurd hleaves (not_le.mpr hstays),
      fun _ => h.entersGather hown (SameStation.refl _) rfl⟩
  · have hstays : u.leaveMute = u := if_neg fun hm => hleaves hm.2
    rw [hstays]
    exact ⟨(Quiet.react u).setup, u.react_port, by simp, by simp, by simp,
      fun _ => ⟨⟨by simp [h.table], by simp [h.lineCount]⟩, by simp [h.part], by simp [h.flags]⟩,
      fun hm => absurd hm hleaves⟩

theorem exec_frameConfirmed_of_mute {s : State} {f : Frame} (hclocked : s.clocked = true)
    (hmute : s.part.state = .mute) (hslot : s.slotFrame = some f) (hreceiver : s.isSender = false)
    (hverdict : s.line.verdict ≠ some .disagree) (ack : Bit) : exec (.frameConfirmed ack) s =
      .next ((s.counted f false).evictionNoted (f.payload.evicts s.own)).leaveMute.react := by
  have hconfirmed : s.confirmMute f false =
      ((s.counted f false).evictionNoted (f.payload.evicts s.own)).leaveMute.react := by
    show ((s.counted f false).recogniseEviction f).leaveMute.react = _
    rw [State.recogniseEviction_eq, (Quiet.counted s f false).own]
  rw [← hconfirmed, ← hreceiver]
  simp [exec, execFrameConfirmed, hslot, hclocked, hverdict, hmute]

/-- The eviction recognised, then what the fault count leads to. -/
theorem exec_frameConfirmed_leavesMute {s : State} {f : Frame} (ack : Bit) (hclocked : s.clocked = true)
    (hmute : s.part.state = .mute) (hslot : s.slotFrame = some f) (hreceiver : s.isSender = false)
    (hverdict : s.line.verdict ≠ some .disagree) :
    ∃ t, exec (.frameConfirmed ack) s = .next t ∧ SameSetup s t ∧ SamePort s t ∧
      t.line.position = .tail ∧ t.line.faultCount = s.line.faultCount - 1 ∧
      (5 < s.line.faultCount → SameTable s t ∧
        t.part = (s.evictionNoted (f.payload.evicts s.own)).part ∧
        t.monitor.flags = (s.evictionNoted (f.payload.evicts s.own)).monitor.flags) ∧
      (s.line.faultCount ≤ 5 → EntersGather false (s.evictionNoted (f.payload.evicts s.own)) t) := by
  have hquiet := Quiet.counted s f false
  obtain ⟨hsetup, hport, htable, hline, hstate⟩ :=
    (s.counted f false).evictionNoted_keeps (f.payload.evicts s.own)
  obtain ⟨hposition, -, -, hfault⟩ := s.counted_ended f false
  obtain ⟨hmsetup, hmport, -, hmposition, hmfault, hstays, hleaves⟩ :=
    (s.evictionNoted_counted f (f.payload.evicts s.own)).leavesMute
      (by rw [State.evictionNoted_own, State.evictionNoted_own, hquiet.own])
        (hstate.trans (hquiet.state.trans hmute))
  rw [hline, hfault] at hstays hleaves
  refine ⟨_, exec_frameConfirmed_of_mute hclocked hmute hslot hreceiver hverdict ack,
    (hquiet.setup.trans hsetup).trans hmsetup,
    ((s.counted_port f false).trans hport).trans hmport, by rw [hmposition, hline, hposition],
    by rw [hmfault, hline, hfault], fun hlimit => ?_, fun hlimit => ?_⟩
  · obtain ⟨hkept, hpart, hflags⟩ := hstays (by omega)
    obtain ⟨-, -, hnoted, -⟩ := s.evictionNoted_keeps (f.payload.evicts s.own)
    exact ⟨hnoted.trans hkept, hpart, hflags⟩
  · exact hleaves (by omega)

/-- Settles O36: by the kind of the frame, as only an EVICT is recognised. -/
theorem confirmedFrameInMute : Obligations.ConfirmedFrameInMute := by
  intro ack f s hclocked hmute hslot hrole hverdict
  have hreceiver : s.isSender = false := by simp [State.isSender, hrole]
  have houtcome := exec_frameConfirmed_leavesMute ack hclocked hmute hslot hreceiver hverdict
  obtain ⟨rank, wait, sender, count, payload⟩ := f
  cases payload <;> exact houtcome

/-! ### FRAME_VOID (R73, R75, R98) -/

/-- A void frame counted, as every participation state that completes one leaves the station. -/
theorem State.completeVoid_eq (s : State) : s.completeVoid =
    { s with
      line := { LineInterface.reset with
        position := .tail, faultCount := s.line.faultCount - 1, outbox := s.line.outbox }
      monitor := { s.monitor with counters := { s.monitor.counters with
        framesVoid := min 65535 (s.monitor.counters.framesVoid + 1) } } } := rfl

/-- Whether a station reads the ACK slot dominant: it drove the slot itself, or another did (R97). -/
def State.readsAck (s : State) (ack : Bit) : Bool := ack == dominant || s.line.verdict == some .agree

theorem exec_frameVoid_of_active {s : State} {f : Frame} (hclocked : s.clocked = true)
    (hactive : s.part.state = .active) (hslot : s.slotFrame = some f) (ack : Bit) :
    exec (.frameVoid ack) s = .next (if s.shownStale (s.readsAck ack) = true then
      (s.completeVoid.enterGather true).react else s.completeVoid) := by
  simp [exec, execFrameVoid, hslot, hclocked, hactive, State.readsAck]

theorem State.completeVoid_sameStation (s : State) : SameStation s s.completeVoid :=
  ⟨rfl, rfl, rfl, rfl, rfl, rfl, rfl, rfl⟩

/-- Settles O37: by what the station reads in the ACK slot. -/
theorem voidFrameShowsWhoIsStale : Obligations.VoidFrameShowsWhoIsStale := by
  intro f s hclocked hactive hslot
  have hexec := exec_frameVoid_of_active hclocked hactive hslot
  have hstale : ∀ ack, s.shownStale (s.readsAck ack) = true →
      ∃ t, exec (.frameVoid ack) s = .next t ∧ EntersGather true s t ∧
        t.line.position = .tail ∧ t.line.faultCount = s.line.faultCount - 1 ∧
        t.monitor.counters = s.completeVoid.monitor.counters ∧ SameSetup s t ∧ SamePort s t := by
    intro ack hshown
    obtain ⟨hsetup, hport, hcounters, hline⟩ := s.completeVoid.enterGather_react_keeps true
    refine ⟨_, (hexec ack).trans (by rw [if_pos hshown]),
      s.completeVoid_sameStation.entersGather rfl (.refl _) rfl, by rw [hline]; rfl,
      by rw [hline]; rfl, hcounters, ⟨hsetup.rst, hsetup.loader, hsetup.config, hsetup.pending⟩,
      ⟨hport.ncsLow, hport.transaction, hport.snapshot, hport.miso⟩⟩
  have hended : ∀ ack, s.shownStale (s.readsAck ack) = false →
      exec (.frameVoid ack) s = .next s.completeVoid := by
    intro ack hshown
    rw [hexec, if_neg (by rw [hshown]; decide)]
  refine ⟨fun hrole => hended _ ?_, fun hrole hverdict => hstale _ ?_,
    fun hrole hverdict => hstale _ ?_, fun hrole hverdict => hended _ ?_,
    fun hrole hverdict ack => hended _ ?_⟩ <;>
    simp [State.shownStale, State.readsAck, State.isSender, *]

theorem exec_frameVoid_of_gather {s : State} {f : Frame} (hclocked : s.clocked = true)
    (hgather : s.part.state.isGather = true) (hslot : s.slotFrame = some f) (ack : Bit) :
    exec (.frameVoid ack) s = .next (if (s.isSender && !s.readsAck ack) = true then
      s.completeVoid.windowAgain else s.completeVoid) := by
  cases hstate : s.part.state with
  | gather phase => simp [exec, execFrameVoid, hslot, hclocked, hstate, State.readsAck]
  | _ => simp [hstate, Participation.isGather] at hgather

theorem exec_frameVoid_of_mute {s : State} {f : Frame} (hclocked : s.clocked = true)
    (hmute : s.part.state = .mute) (hslot : s.slotFrame = some f) (ack : Bit) :
    exec (.frameVoid ack) s = .next s.completeVoid.leaveMute.react := by
  simp [exec, execFrameVoid, hslot, hclocked, hmute]

/-- Settles O38: by the participation state. -/
theorem voidFrameInGatherAndMute : Obligations.VoidFrameInGatherAndMute := by
  intro ack f s hclocked hslot
  refine ⟨fun hrejoin hrole hverdict => ?_, fun hgather hrole => ?_, fun hmute => ?_⟩
  · have hexec := exec_frameVoid_of_gather hclocked (by rw [hrejoin]; rfl) hslot
    have hsender := State.isSender_iff.mpr hrole
    refine ⟨(hexec _).trans ?_, (hexec _).trans ?_⟩
    · rw [if_pos (by simp [hsender, State.readsAck, hverdict])]
      rfl
    · rw [if_neg (by simp [State.readsAck])]
      rfl
  · rw [exec_frameVoid_of_gather hclocked hgather hslot, if_neg (by simp [State.isSender, hrole])]
    rfl
  · obtain ⟨hsetup, hport, hcounters, hposition, hfault, hstays, hleaves⟩ :=
      s.completeVoid_sameStation.leavesMute rfl hmute
    refine ⟨_, exec_frameVoid_of_mute hclocked hmute hslot ack,
      ⟨hsetup.rst, hsetup.loader, hsetup.config, hsetup.pending⟩,
      ⟨hport.ncsLow, hport.transaction, hport.snapshot, hport.miso⟩, hposition, hfault, hcounters,
      fun hlimit => ?_, fun hlimit => hleaves (Nat.sub_le_of_le_add hlimit)⟩
    obtain ⟨htable, hpart, -⟩ := hstays (Nat.lt_sub_of_add_lt hlimit)
    exact ⟨htable, hpart⟩

end Sys2Proof.Machine
end

section
/-! The tick and the timers (O46, O47; R9, R60, R68, R70, R71, R79, R148, R153). -/

namespace Sys2Proof.Machine

/-! ### Ages and the horizon (R9, R79) -/

theorem State.tickAges_table_of_counts {s : State}
    (h : s.part.state = .active ∨ s.part.state.isGather = true) :
    s.tickAges.table = s.table.aged := by
  unfold State.tickAges
  rw [if_pos (by simpa using h)]

theorem State.tickAges_table_of_not {s : State}
    (h : ¬ (s.part.state = .active ∨ s.part.state.isGather = true)) :
    s.tickAges.table = s.table := by
  unfold State.tickAges
  rw [if_neg (by simpa using h)]

/-- Ageing changes ages alone. -/
theorem State.tickAges_at (s : State) (a : Address) :
    s.tickAges.table.at a = { s.table.at a with age := (s.tickAges.table.at a).age } := by
  obtain h | h := s.tickAges_table
  · rw [h]
  · rw [h, Table.at_aged]
    split_ifs <;> rfl

theorem State.tickHorizon_part (s : State) :
    s.tickHorizon.part = { s.part with
      horizon :=
        if s.part.state = .active ∨ s.part.state.isGather = true ∨ s.part.state = .mute then
          s.part.horizon.ticked (2 * s.cfg.announcePeriod)
        else s.part.horizon } := by
  unfold State.tickHorizon
  by_cases h : s.part.state = .active ∨ s.part.state.isGather = true ∨ s.part.state = .mute
  · rw [if_pos (by simpa [or_assoc] using h), if_pos h]
  · rw [if_neg (by simpa [or_assoc] using h), if_neg h]

/-! ### The window (R60, R68) -/

/-- The next tick of the window timer closes the window. -/
def State.WindowCloses (s : State) : Prop :=
  s.part.state = .gather .window ∧ 2 * s.cfg.announcePeriod ≤ s.part.windowTimer + 1

theorem State.closeWindow_eq (s : State) : s.closeWindow =
    { s with
      table := s.table.closed
      lineCount := some (s.lineCount.getD 0)
      line := { s.line with outbox := s.line.outbox.add .rejoin }
      part := { s.part with
        state := .gather .rejoin, windowTimer := 2 * s.cfg.announcePeriod } } := rfl

theorem State.tickWindow_of_closes {s : State} (h : s.WindowCloses) : s.tickWindow = s.closeWindow := by
  obtain ⟨hwindow, hlimit⟩ := h
  unfold State.tickWindow
  rw [if_pos hwindow, if_neg (not_lt.mpr hlimit)]

theorem State.tickWindow_of_not {s : State} (h : ¬ s.WindowCloses) : s.tickWindow =
    { s with
      part := { s.part with
        windowTimer :=
          if s.part.state = .gather .window then s.part.windowTimer + 1 else s.part.windowTimer } } := by
  unfold State.tickWindow
  by_cases hwindow : s.part.state = .gather .window
  · rw [if_pos hwindow, if_pos hwindow, if_pos (not_le.mp fun hlimit => h ⟨hwindow, hlimit⟩)]
  · rw [if_neg hwindow, if_neg hwindow]

/-! ### The announce timer and the look for silence (R70, R71) -/

theorem State.announceDue_eq {s : State} (h : s.activeRun = true) : s.announceDue =
    { s with
      part := { s.part with announceTimer := s.cfg.announcePeriod }
      line := { s.line with outbox := s.line.outbox.add .plain } } := by
  unfold State.announceDue State.place
  exact if_pos (by exact h)

/-- The announce timer counts below the announce period (R70). -/
def State.AnnounceCounts (s : State) : Prop :=
  s.activeRun = true ∧ s.part.announceTimer < s.cfg.announcePeriod

theorem State.tickAnnounce_of_not {s : State} (h : ¬ s.AnnounceCounts) : s.tickAnnounce = s := by
  unfold State.tickAnnounce
  exact if_neg (by simpa [State.AnnounceCounts] using h)

theorem State.tickAnnounce_of_counts {s : State} (h : s.AnnounceCounts) : s.tickAnnounce =
    { s with
      part := { s.part with announceTimer := s.part.announceTimer + 1 }
      line := { s.line with outbox :=
        if s.cfg.announcePeriod ≤ s.part.announceTimer + 1 then s.line.outbox.add .plain
        else s.line.outbox } } := by
  obtain ⟨hactive, hbelow⟩ := h
  unfold State.tickAnnounce
  rw [if_pos (by simp [hactive, hbelow])]
  by_cases hlast : s.cfg.announcePeriod ≤ s.part.announceTimer + 1
  · rw [if_neg (not_lt.mpr hlast), if_pos hlast, State.announceDue_eq hactive,
      hlast.antisymm hbelow]
  · rw [if_pos (not_le.mp hlast), if_neg hlast]

theorem State.lookForSilence_eq (s : State) : s.lookForSilence =
    { s with line := { s.line with outbox :=
      if s.activeRun = true ∧ s.silentPeers ≠ [] then s.line.outbox.add .evict
      else s.line.outbox } } := by
  unfold State.lookForSilence State.place
  by_cases h : s.activeRun = true ∧ s.silentPeers ≠ []
  · rw [if_pos (by simpa using h), if_pos h]
    exact if_pos (by exact h.1)
  · rw [if_neg (by simpa using h), if_neg h]

theorem State.silentPeers_ne_nil {s : State} : s.silentPeers ≠ [] ↔
    ∃ a, (s.table.at a).presence = .present ∧ a ≠ s.own ∧ 3 * s.cfg.announcePeriod ≤
      (s.table.at a).age := by
  rw [Ne, List.eq_nil_iff_forall_not_mem, not_forall_not]
  exact exists_congr fun a => Table.mem_silent

/-! ### The idle timer (R148) -/

theorem State.idle_congr {s t : State} (hactive : t.activeRun = s.activeRun)
    (hwant : t.wantLevel = s.wantLevel) (hholding : t.ownHolding = s.ownHolding)
    (hdepth : t.ownShedDepth = s.ownShedDepth) (hlockout : t.sense.lockout = s.sense.lockout)
    (hsag : t.sense.sagHold = s.sense.sagHold) : t.idle = s.idle := by
  simp only [State.idle, hactive, hwant, hholding, hdepth, hlockout, hsag]

theorem State.idle_of_not_activeRun {s : State} (h : s.activeRun = false) : s.idle = false := by
  simp [State.idle, h]

theorem State.react_idleTimer (s : State) :
    s.react.power.idleTimer = if s.idle = true then s.power.idleTimer else 0 := by
  have hidle : s.restPatience.follow.idle = s.idle :=
    State.idle_congr (by simp [State.activeRun]) (by simp)
      (by simp [State.ownHolding, State.ownEntry]) (by simp [State.ownShedDepth]) (by simp) (by simp)
  unfold State.react State.restIdle
  rw [hidle]
  split_ifs <;> simp

theorem State.tickIdle_idleTimer (s : State) : s.tickIdle.power.idleTimer =
    if s.idle = true ∧ s.power.idleTimer < s.idleTicks then s.power.idleTimer + 1
    else s.power.idleTimer := by
  unfold State.tickIdle
  by_cases h : s.idle = true ∧ s.power.idleTimer < s.idleTicks
  · rw [if_pos (by simpa using h), if_pos h]
  · rw [if_neg (by simpa using h), if_neg h]

@[simp] theorem State.tickIdle_powerState (s : State) :
    s.tickIdle.power.state = s.power.state := by
  unfold State.tickIdle
  split_ifs <;> rfl

@[simp] theorem State.tickIdle_dormantTimer (s : State) :
    s.tickIdle.power.dormantTimer = s.power.dormantTimer := by
  unfold State.tickIdle
  split_ifs <;> rfl

theorem State.tickDormant_power (s : State) : s.tickDormant.power = { s.power with
    dormantTimer := if s.power.state = .listen ∧ s.power.dormantTimer < s.dormantTicks then
      s.power.dormantTimer + 1 else s.power.dormantTimer } := by
  unfold State.tickDormant
  by_cases h : s.power.state = .listen ∧ s.power.dormantTimer < s.dormantTicks
  · rw [if_pos (by simpa using h), if_pos h]
  · rw [if_neg (by simpa using h), if_neg h]

theorem Table.shedDepth_aged (t : Table) (a : Address) : t.aged.shedDepth a = t.shedDepth a := by
  rw [Table.shedDepth_eq_sum, Table.shedDepth_eq_sum]
  refine Finset.sum_congr rfl fun x _ => ?_
  rw [Table.at_aged]
  split_ifs <;> rfl

theorem Table.share_aged (t : Table) (a : Address) : (t.aged.at a).share = (t.at a).share := by
  rw [Table.at_aged]
  split_ifs <;> rfl

/-! ### What follows the window timer in a tick -/

/-- The announce timer, the timers of rest, the look for silence, and the reactions. -/
def State.restOfTick (s : State) : State :=
  s.tickAnnounce.tickIdle.tickDormant.lookForSilence.react

theorem State.tickAnnounce_announceTimer (s : State) : s.tickAnnounce.part = { s.part with
    announceTimer := if s.activeRun = true ∧ s.part.announceTimer < s.cfg.announcePeriod then
      s.part.announceTimer + 1 else s.part.announceTimer } := by
  by_cases h : s.activeRun = true ∧ s.part.announceTimer < s.cfg.announcePeriod
  · rw [State.tickAnnounce_of_counts h, if_pos h]
  · rw [State.tickAnnounce_of_not h, if_neg h]

theorem State.tickAnnounce_line (s : State) :
    s.tickAnnounce.line = { s.line with outbox := s.tickAnnounce.line.outbox } := by
  by_cases h : s.AnnounceCounts
  · rw [State.tickAnnounce_of_counts h]
  · rw [State.tickAnnounce_of_not h]

theorem State.tickAnnounce_evict (s : State) :
    s.tickAnnounce.line.outbox.evict = s.line.outbox.evict := by
  by_cases h : s.AnnounceCounts
  · rw [State.tickAnnounce_of_counts h]
    dsimp only
    split_ifs <;> rfl
  · rw [State.tickAnnounce_of_not h]

theorem Outbox.has_announce {o : Outbox} : o.has .announce = true ↔ o.announce ≠ none :=
  Option.isSome_iff_ne_none

theorem State.tickAnnounce_announce {s : State}
    (h : s.line.outbox.announce ≠ none ∨
      s.AnnounceCounts ∧ s.cfg.announcePeriod ≤ s.part.announceTimer + 1) :
    s.tickAnnounce.line.outbox.announce ≠ none := by
  by_cases hcounts : s.AnnounceCounts
  · rw [State.tickAnnounce_of_counts hcounts]
    dsimp only
    split_ifs with hlast
    · exact Option.some_ne_none _
    · exact h.resolve_right fun hdue => hlast hdue.2
  · rw [State.tickAnnounce_of_not hcounts]
    exact h.resolve_right fun hdue => hcounts hdue.1

theorem State.tickAnnounce_keeps (s : State) : s.tickAnnounce.activeRun = s.activeRun ∧
    s.tickAnnounce.idle = s.idle ∧ s.tickAnnounce.silentPeers = s.silentPeers := by
  have hactive : s.tickAnnounce.activeRun = s.activeRun := by
    simp [State.activeRun, State.tickAnnounce_announceTimer]
  refine ⟨hactive, State.idle_congr hactive ?_ ?_ ?_ (by simp) (by simp), by simp [State.silentPeers]⟩
  · exact State.wantLevel_congr (by simp) (by simp) (by simp) (by simp)
  · simp [State.ownHolding, State.ownEntry]
  · simp [State.ownShedDepth]

theorem State.restOfTick_line (s : State) : s.restOfTick.line = { s.line with
    outbox := if s.activeRun = true ∧ s.silentPeers ≠ [] then s.tickAnnounce.line.outbox.add .evict
      else s.tickAnnounce.line.outbox } := by
  obtain ⟨hactive, -, hsilent⟩ := s.tickAnnounce_keeps
  have hlook : s.tickAnnounce.tickIdle.tickDormant.activeRun = s.activeRun ∧
      s.tickAnnounce.tickIdle.tickDormant.silentPeers = s.silentPeers := by
    rw [← hactive, ← hsilent]
    exact ⟨by simp [State.activeRun, State.tickDormant_power],
      by simp [State.silentPeers]⟩
  unfold State.restOfTick
  rw [State.react_line, State.lookForSilence_eq, hlook.1, hlook.2, State.tickDormant_line,
    State.tickIdle_line, State.tickAnnounce_line]

theorem State.restOfTick_part (s : State) : s.restOfTick.part = s.tickAnnounce.part := by
  simp [State.restOfTick]

theorem State.restOfTick_dormantTimer (s : State) : s.restOfTick.power.dormantTimer =
    if s.power.state = .listen ∧ s.power.dormantTimer < s.dormantTicks then
      s.power.dormantTimer + 1 else s.power.dormantTimer := by
  have hticks : s.tickAnnounce.tickIdle.dormantTicks = s.dormantTicks := by simp [State.dormantTicks]
  unfold State.restOfTick
  rw [State.react_dormantTimer, State.lookForSilence_power, State.tickDormant_power]
  dsimp only
  rw [hticks, State.tickIdle_powerState, State.tickIdle_dormantTimer, State.tickAnnounce_power]

theorem State.restOfTick_powerState (s : State) : s.restOfTick.power.state = s.power.state := by
  simp [State.restOfTick, State.tickDormant_power]

theorem State.restOfTick_idleTimer (s : State) : s.restOfTick.power.idleTimer =
    if s.idle = true then
      if s.power.idleTimer < s.idleTicks then s.power.idleTimer + 1 else s.power.idleTimer
    else 0 := by
  obtain ⟨-, hidle, -⟩ := s.tickAnnounce_keeps
  have hkept : s.tickAnnounce.tickIdle.tickDormant.lookForSilence.idle = s.idle := by
    rw [← hidle]
    exact State.idle_congr
      (by simp [State.activeRun, State.tickDormant_power])
      (State.wantLevel_congr (by simp) (by simp) (by simp) (by simp))
      (by simp [State.ownHolding, State.ownEntry]) (by simp [State.ownShedDepth]) (by simp) (by simp)
  have hticks : s.tickAnnounce.idleTicks = s.idleTicks := by simp [State.idleTicks]
  unfold State.restOfTick
  rw [State.react_idleTimer, hkept, State.lookForSilence_power, State.tickDormant_power]
  dsimp only
  rw [State.tickIdle_idleTimer, hidle, hticks, State.tickAnnounce_power]
  by_cases h : s.idle = true <;> simp [h]

/-! ### The tick as a whole -/

/-- The ages, the horizon and the window timer of a tick. -/
def State.upToWindow (s : State) : State := s.tickAges.tickHorizon.tickWindow

theorem exec_tick {s : State} (h : s.settledRunning = true) :
    exec .tick s = .next s.upToWindow.restOfTick := if_pos h

theorem State.tickHorizon_state (s : State) : s.tickHorizon.part.state = s.part.state := by
  rw [State.tickHorizon_part]

theorem State.windowCloses_ticked (s : State) :
    s.tickAges.tickHorizon.WindowCloses ↔ s.WindowCloses := by
  simp [State.WindowCloses, State.tickHorizon_part]

/-- Whether or not the window closes, the other timers stand as the ages and the horizon leave them. -/
theorem State.upToWindow_part (s : State) : s.upToWindow.part = { s.part with
    state := s.upToWindow.part.state
    windowTimer := s.upToWindow.part.windowTimer
    horizon := s.tickAges.tickHorizon.part.horizon } := by
  unfold State.upToWindow
  by_cases h : s.tickAges.tickHorizon.WindowCloses
  · rw [State.tickWindow_of_closes h, State.closeWindow_eq, State.tickHorizon_part,
      State.tickAges_part]
  · rw [State.tickWindow_of_not h, State.tickHorizon_part, State.tickAges_part]

theorem State.upToWindow_of_closes {s : State} (h : s.WindowCloses) :
    s.upToWindow.table = s.table.aged.closed ∧ s.upToWindow.lineCount = some (s.lineCount.getD 0) ∧
      s.upToWindow.part.state = .gather .rejoin ∧
      s.upToWindow.line = { s.line with outbox := s.line.outbox.add .rejoin } := by
  have hcounts : s.part.state = .active ∨ s.part.state.isGather = true := .inr (by rw [h.1]; rfl)
  unfold State.upToWindow
  rw [State.tickWindow_of_closes (s.windowCloses_ticked.mpr h), State.closeWindow_eq]
  simp [State.tickAges_table_of_counts hcounts]

theorem State.upToWindow_of_not {s : State} (h : ¬ s.WindowCloses) :
    s.upToWindow.table = s.tickAges.table ∧ s.upToWindow.lineCount = s.lineCount ∧
      s.upToWindow.part.state = s.part.state ∧ s.upToWindow.line = s.line ∧
      s.upToWindow.part.windowTimer =
        if s.part.state = .gather .window then s.part.windowTimer + 1 else s.part.windowTimer := by
  unfold State.upToWindow
  rw [State.tickWindow_of_not (s.windowCloses_ticked.not.mpr h)]
  simp [State.tickHorizon_part]

theorem State.upToWindow_activeRun (s : State) : s.upToWindow.activeRun = s.activeRun := by
  have hpower : s.upToWindow.power = s.power := by simp [State.upToWindow]
  by_cases h : s.WindowCloses
  · obtain ⟨-, -, hstate, -⟩ := State.upToWindow_of_closes h
    simp [State.activeRun, hpower, hstate, h.1]
    rfl
  · obtain ⟨-, -, hstate, -⟩ := State.upToWindow_of_not h
    simp [State.activeRun, hpower, hstate]

theorem State.activeRun_not_closes {s : State} (h : s.activeRun = true) : ¬ s.WindowCloses :=
  fun hcloses => by
    rw [State.activeRun_iff, hcloses.1] at h
    exact nomatch h.1

theorem State.upToWindow_idle (s : State) : s.upToWindow.idle = s.idle := by
  have hactive := s.upToWindow_activeRun
  cases hrun : s.activeRun with
  | false =>
    rw [State.idle_of_not_activeRun hrun, State.idle_of_not_activeRun (hactive.trans hrun)]
  | true =>
    obtain ⟨htable, -⟩ := State.upToWindow_of_not (State.activeRun_not_closes hrun)
    rw [State.tickAges_table_of_counts (.inl (State.activeRun_iff.mp hrun).1)] at htable
    have hown : s.upToWindow.own = s.own := by simp [State.upToWindow]
    refine State.idle_congr hactive
      (State.wantLevel_congr (by simp [State.upToWindow]) (by simp [State.upToWindow])
        (by simp [State.upToWindow]) (by simp [State.upToWindow])) ?_ ?_ (by simp [State.upToWindow])
      (by simp [State.upToWindow])
    · rw [State.ownHolding, State.ownEntry, htable, hown, Table.share_aged]
      rfl
    · rw [State.ownShedDepth, htable, hown, Table.shedDepth_aged]
      rfl

/-- The horizon after a tick (R79). -/
theorem State.upToWindow_horizon (s : State) : s.upToWindow.part.horizon =
    if s.part.state = .active ∨ s.part.state.isGather = true ∨ s.part.state = .mute then
      s.part.horizon.ticked (2 * s.cfg.announcePeriod)
    else s.part.horizon := by
  rw [State.upToWindow_part, State.tickHorizon_part, State.tickAges_part, State.tickAges_cfg]

/-- An entry after a tick in a state in which ages count (R9), the window not closing. -/
theorem State.tickAges_age {s : State} (h : s.part.state = .active ∨ s.part.state.isGather = true)
    {a : Address} (hp : (s.table.at a).presence = .present) :
    (s.tickAges.table.at a).age = min 65535 ((s.table.at a).age + 1) := by
  rw [State.tickAges_table_of_counts h, Table.at_aged, if_pos (Entry.isPresent_iff.mpr hp)]

/-- Ageing leaves every presence. -/
theorem Table.presence_aged (t : Table) (a : Address) : (t.aged.at a).presence = (t.at a).presence := by
  rw [Table.at_aged]
  split_ifs <;> rfl

/-- An entry that is not UNKNOWN as the window closes (R19). -/
theorem Table.at_aged_closed {t : Table} {a : Address} (h : (t.at a).presence ≠ .unknown) :
    t.aged.closed.at a = { t.at a with
      age := (t.aged.at a).age
      debts := (t.at a).debts.filter fun d => (t.at d.creditor).presence != .unknown } := by
  rw [Table.at_closed, if_neg (by rwa [Table.presence_aged])]
  simp only [Table.presence_aged]
  rw [Table.at_aged]
  split_ifs <;> rfl

/-- The silent peers that a tick in ACTIVE with power RUN finds (R71). -/
theorem State.upToWindow_silentPeers {s : State} (h : s.activeRun = true) :
    s.upToWindow.silentPeers ≠ [] ↔ ∃ a, (s.table.at a).presence = .present ∧ a ≠ s.own ∧
      3 * s.cfg.announcePeriod ≤ min 65535 ((s.table.at a).age + 1) := by
  have hstate := (State.activeRun_iff.mp h).1
  obtain ⟨htable, -⟩ := State.upToWindow_of_not (State.activeRun_not_closes h)
  rw [State.silentPeers_ne_nil, htable, show s.upToWindow.own = s.own by simp [State.upToWindow],
    show s.upToWindow.cfg = s.cfg by simp [State.upToWindow]]
  refine exists_congr fun a => ?_
  rw [State.tickAges_at]
  refine and_congr_right fun hp => ?_
  rw [State.tickAges_age (.inl hstate) hp]

/-- Settles O46: what stands before the window timer, what the window does, and the timers after it. -/
theorem tickAdvancesTheTimers : Obligations.TickAdvancesTheTimers := by
  intro s hrun
  have hcfg : s.upToWindow.cfg = s.cfg := by simp [State.upToWindow]
  have hpower : s.upToWindow.power = s.power := by simp [State.upToWindow]
  have htable : s.upToWindow.restOfTick.table = s.upToWindow.table := by simp [State.restOfTick]
  have hcount : s.upToWindow.restOfTick.lineCount = s.upToWindow.lineCount := by
    simp [State.restOfTick]
  have hpart := s.upToWindow.restOfTick_part.trans s.upToWindow.tickAnnounce_announceTimer
  have htimer : s.upToWindow.part.announceTimer = s.part.announceTimer := by
    rw [State.upToWindow_part]
  have hhorizon := s.upToWindow_horizon
  have hactive := s.upToWindow_activeRun
  have hline := s.upToWindow.restOfTick_line
  have hidle := s.upToWindow.restOfTick_idleTimer
  rw [hactive, htimer, hcfg] at hpart
  rw [s.upToWindow_idle, hpower, show s.upToWindow.idleTicks = s.idleTicks by
    rw [State.idleTicks, hcfg]; rfl] at hidle
  have hannounce : ∀ h : s.upToWindow.tickAnnounce.line.outbox.announce ≠ none,
      s.upToWindow.restOfTick.line.outbox.announce ≠ none := by
    intro h
    rw [hline]
    dsimp only
    split_ifs
    · exact h
    · exact h
  dsimp only
  refine ⟨_, exec_tick hrun, fun a hcounts hp => ?_, fun hcounts => ?_, fun hcloses => ?_,
    fun hcloses => ?_, fun hwindow hbelow => ?_, fun hcounts => ?_, fun hcounts => ?_, fun hrunning => ?_,
    fun hrunning hbelow hlast => ?_, fun hrunning => ?_, fun hrunning => ?_, fun hi => ?_, fun hi => ?_,
    fun hlisten => ?_, ?_, ?_, State.react_output_le_target _, by simp [State.restOfTick, State.upToWindow],
    by constructor <;> simp [State.restOfTick, State.upToWindow]⟩
  · rw [htable]
    by_cases hcloses : s.WindowCloses
    · obtain ⟨hclosed, -⟩ := State.upToWindow_of_closes hcloses
      rw [hclosed, Table.at_aged_closed (by rw [hp]; decide), Table.at_aged,
        if_pos (Entry.isPresent_iff.mpr hp)]
    · obtain ⟨hkept, -⟩ := State.upToWindow_of_not hcloses
      rw [hkept, State.tickAges_age hcounts hp]
  · have hcloses : ¬ s.WindowCloses := fun h => hcounts (.inr (by rw [h.1]; rfl))
    obtain ⟨hkept, -⟩ := State.upToWindow_of_not hcloses
    rw [htable, hkept, State.tickAges_table_of_not hcounts]
  · obtain ⟨hkept, hn, hstate, -⟩ := State.upToWindow_of_not hcloses
    refine ⟨fun a => ?_, hcount.trans hn, by rw [hpart]; exact hstate⟩
    rw [htable, hkept]
    exact s.tickAges_at a
  · obtain ⟨hclosed, hn, hstate, hbox⟩ := State.upToWindow_of_closes hcloses
    refine ⟨fun a hp => ?_, fun a hp => ?_, hcount.trans hn, by rw [hpart]; exact hstate,
      hannounce (State.tickAnnounce_announce (.inl ?_))⟩
    · rw [htable, hclosed, Table.at_closed, if_pos (by rwa [Table.presence_aged])]
    · rw [htable, hclosed, Table.at_aged_closed hp]
    · rw [hbox]
      exact Option.some_ne_none _
  · obtain ⟨-, -, -, -, htick⟩ := State.upToWindow_of_not fun h => absurd h.2 (not_le.mpr hbelow)
    rw [hpart]
    exact htick.trans (if_pos hwindow)
  · rw [hpart]
    dsimp only
    rw [hhorizon, if_pos (or_assoc.mp hcounts)]
    cases s.part.horizon <;> rfl
  · rw [hpart]
    dsimp only
    rw [hhorizon, if_neg fun h => hcounts (or_assoc.mpr h)]
  · rw [hpart]
    dsimp only
    simp only [hrunning, true_and]
  · refine hannounce (State.tickAnnounce_announce (.inr ⟨⟨hactive.trans hrunning, ?_⟩, ?_⟩)) <;>
      rwa [htimer, hcfg]
  · rw [hpart]
    dsimp only
    rw [hrunning, if_neg (by simp)]
  · obtain ⟨-, -, -, hbox, -⟩ := State.upToWindow_of_not (State.activeRun_not_closes hrunning)
    have hevict := s.upToWindow.tickAnnounce_evict
    rw [hbox] at hevict
    rw [hline, ← State.upToWindow_silentPeers hrunning]
    dsimp only
    split_ifs with hsilent
    · exact iff_of_true rfl (.inr hsilent.2)
    · rw [hevict, or_iff_left fun h => hsilent ⟨hactive.trans hrunning, h⟩]
  · rw [hidle, if_pos hi]
  · rw [hidle, if_neg (by rw [hi]; decide)]
  · rw [State.restOfTick_dormantTimer, hpower, show s.upToWindow.dormantTicks = s.dormantTicks by
      rw [State.dormantTicks, hcfg]; rfl]
    simp only [hlisten, true_and]
  · rw [State.restOfTick_powerState, hpower]
  · rw [hline]
    dsimp only
    by_cases hcloses : s.WindowCloses
    · obtain ⟨-, -, -, hbox⟩ := State.upToWindow_of_closes hcloses
      rw [hbox]
    · obtain ⟨-, -, -, hbox, -⟩ := State.upToWindow_of_not hcloses
      rw [hbox]

/-! ### The timers at their limits -/

/-- Settles O47: each command is the last step of the tick for one timer. -/
theorem timersActAtTheirLimits : Obligations.TimersActAtTheirLimits := by
  intro s hrun
  refine ⟨fun hactive hsilent => ?_, fun hactive hlast => ?_, fun hwindow hlast => ?_,
    fun n hn hlast hstate => ?_⟩
  · show execSilenceLimitReached s = _
    unfold execSilenceLimitReached
    rw [if_pos hrun, State.lookForSilence_eq,
      if_pos ⟨hactive, State.silentPeers_ne_nil.mpr hsilent⟩]
    rfl
  · show execAnnounceTimerExpiry s = _
    unfold execAnnounceTimerExpiry
    rw [if_pos (by simp [hrun, hactive, hlast]), State.announceDue_eq hactive]
    rfl
  · refine ⟨s.closeWindow.react, if_pos (by simp [hrun, hwindow, hlast]), fun a hp => ?_, fun a hp => ?_,
      ?_, ?_, ?_, ?_, ?_, by constructor <;> simp [State.closeWindow_eq]⟩
    · rw [State.react_table, State.closeWindow_eq, Table.at_closed, if_pos hp]
    · rw [State.react_table, State.closeWindow_eq, Table.at_closed, if_neg hp]
    · rw [State.react_lineCount, State.closeWindow_eq]
    · rw [State.react_part, State.closeWindow_eq]
    · rw [State.react_part, State.closeWindow_eq]
    · rw [State.react_line, State.closeWindow_eq]
      rfl
    · rw [State.react_monitor, State.closeWindow_eq]
  · have hstands : s.part.horizon.lastTick (2 * s.cfg.announcePeriod) = true := by
      rw [hn]
      exact decide_eq_true hlast
    have hcounts : (s.part.state == .active || s.part.state.isGather || s.part.state == .mute) = true := by
      simpa [or_assoc] using hstate
    refine ⟨_, if_pos (by rw [hrun, hcounts, hstands]; rfl), by simp, fun hother => ?_, by simp, by simp,
      ⟨by simp, by simp⟩, by constructor <;> simp⟩
    have hlimit : State.horizonLimit { s with part := { s.part with horizon := .expired } } = some 0 :=
      State.horizonLimit_of_applies (hstate.resolve_left hother).symm
    rw [State.react_output, Nat.le_zero.mp (State.target_le_horizonLimit hlimit), Nat.min_zero]

end Sys2Proof.Machine
end

section
/-! Rest and wake (O48, O49; R60, R76, R102, R147 to R149, R153 to R156). -/

namespace Sys2Proof.Machine

/-! ### Where the target is 0 -/

/-- The Load Drive at a target of 0 (R127, R129). -/
theorem State.follow_drive_of_target_zero {s : State} (h : s.target = 0) :
    s.follow.drive = { s.drive with
      output := 0, ramp := .stopped, gate := s.follow.drive.gate } := by
  unfold State.follow
  rw [h, if_neg (Nat.not_lt_zero s.drive.output)]
  split_ifs with hcut
  · rfl
  · rw [← Nat.le_zero.mp (not_lt.mp hcut)]

theorem State.stopPeriods_follow_drive {s : State} (h : s.target = 0) :
    s.follow.stopPeriods.drive = { output := 0, ramp := .stopped, period := none, gate := false } := by
  rw [State.stopPeriods_drive, State.follow_drive_of_target_zero h]

/-- The converter unpowered, its runs and blanking at 0 (R135). -/
theorem State.stopPeriods_follow_sense (s : State) : s.follow.stopPeriods.sense =
    { SenseUnit.reset with lockout := s.sense.lockout, sagHold := s.sense.sagHold } := by
  rw [State.stopPeriods_sense, ← s.follow_lockout, ← s.follow_sagHold]
  rfl

/-! ### Into LISTEN (R148, R149) -/

/-- Settles O48: the target is 0 in LISTEN, so that the output is cut and nothing else moves. -/
theorem idleStationEntersListen : Obligations.IdleStationEntersListen := by
  intro s hrun hidle hdelay
  refine ⟨fun hlast => ?_, fun hlimit hempty => ?_⟩
  · show execIdleTimerExpiry s = _
    unfold execIdleTimerExpiry
    rw [if_pos (by simp [hrun, hidle, hdelay, hlast])]
  · have hnone : s.line.outbox.isEmpty = true := by simp [hempty, Outbox.isEmpty]
    have htarget : State.target { s with
        power := { s.power with state := .listen, idleTimer := 0, dormantTimer := 0 } } = 0 :=
      State.target_eq_zero_of_stateLimited (.inl (by simp))
    exact ⟨_, if_pos (by simp [hrun, hidle, hdelay, hlimit, hnone]), by simp,
      State.stopPeriods_follow_drive htarget, State.stopPeriods_follow_sense _, by simp, by simp,
      by simp, by simp, ⟨by simp, by simp⟩, by constructor <;> simp⟩

/-! ### Into DORMANT, and the wake (R76, R102, R153 to R156) -/

theorem LinePosition.atRest_iff {p : LinePosition} : p.atRest = true ↔ p = .seek ∨ p = .ready := by
  cases p <;> simp [LinePosition.atRest]

/-- A cut leaves a converter that has just been powered as it is. -/
theorem State.react_converter_of_settling {s : State} (h : s.sense.converter = .settling) :
    s.react.sense.converter = .settling := by
  have hfollow : s.restPatience.follow.sense.converter = .settling := by
    unfold State.follow
    split_ifs <;> simp [h, Converter.noteCut]
  rw [State.react, State.restIdle_sense, hfollow]

theorem State.startPeriods_started (s : State) :
    s.startPeriods.drive.period ≠ none ∧ s.startPeriods.sense.converter = .settling := by
  unfold State.startPeriods
  refine ⟨by simp, ?_⟩
  unfold State.scheduleAtBoundary
  rfl

/-- A sleeping station with its clock ready, as GATHER entry finds it (R156). -/
def State.clockStarted (s : State) : State :=
  { s with
    power := { s.power with clockReady := true }
    demand := { s.demand with sameCount := 0, highCount := 0 } }

theorem exec_wakeClockReady {s : State} (hrst : s.rst.inForce = false) (hrun : s.power.state = .run)
    (hsleep : s.part.state = .sleep) (hclock : s.power.clockReady = false) :
    exec .wakeClockReady s = .next (State.react (State.startPeriods
      { s.clockStarted.enterGather false with
        line := { (s.clockStarted.enterGather false).line with position := .seek, idleRun := 0 } })) :=
  if_pos (by simp [hrst, hrun, hsleep, hclock])

/-- Settles O49: each command at its condition. -/
theorem restGoesToDormantAndWakes : Obligations.RestGoesToDormantAndWakes := by
  refine ⟨fun s hrun hlisten hdelay hlast => ?_, fun s hrun hlisten hdelay hlimit hposition => ?_,
    fun pins s hrst hdormant => ⟨fun hpins => ?_, ?_, fun high => ?_⟩,
    fun s hrst hpower hsleep hclock => ?_⟩
  · show execDormantTimerExpiry s = _
    unfold execDormantTimerExpiry
    rw [if_pos (by simp [hrun, hlisten, hdelay, hlast])]
  · have hrest : s.line.position.atRest = true := LinePosition.atRest_iff.mpr hposition
    have htarget : s.enterDormant.target = 0 :=
      State.target_eq_zero_of_stateLimited (.inl (by simp))
    have hdrive := State.stopPeriods_follow_drive htarget
    exact ⟨_, if_pos (by simp [hrun, hlisten, hdelay, hlimit, hrest]), by simp, by simp, by simp,
      by simp, by simp; rfl, by rw [hdrive], by rw [hdrive], by rw [hdrive],
      by simp, by simp, by simp, by constructor <;> simp⟩
  · exact if_pos (by simp [hrst, hdormant, hpins])
  · exact if_neg (by simp)
  · exact if_neg (by simp)
  · obtain ⟨hperiod, hsettling⟩ := State.startPeriods_started
      { s.clockStarted.enterGather false with
        line := { (s.clockStarted.enterGather false).line with position := .seek, idleRun := 0 } }
    have hstation : SameStation { s with demand := { s.demand with sameCount := 0, highCount := 0 } }
        s.clockStarted := ⟨rfl, rfl, rfl, rfl, rfl, rfl, rfl, rfl⟩
    have hclocked : (s.clockStarted.enterGather false).power.clockReady = true := by
      simp [State.enterGather, State.clockStarted]
    have hline := s.clockStarted.enterGather_line false
    have hmonitor : (s.clockStarted.enterGather false).monitor = s.monitor :=
      s.clockStarted.enterGather_monitor false
    refine ⟨_, exec_wakeClockReady hrst hpower hsleep hclock,
      hstation.entersGather rfl (by constructor <;> simp) (by simp), by simp [hclocked], by simp,
      by rwa [State.react_period], State.react_converter_of_settling hsettling, by simp [hline]; rfl,
      by constructor <;> simp [State.clockStarted], by simp [hmonitor]⟩

end Sys2Proof.Machine
end

section
/-! The demand pins, the output target, and the converter's results (O50, O52 to O55; R104 to R107, R124,
R127 to R129, R138 to R145, R151). -/

namespace Sys2Proof.Machine

/-! ### The lowest of the limits (R124) -/

/-- A value that is one of a list and no more than any of it. -/
def IsLowest (n : Nat) (limits : List Nat) : Prop := n ∈ limits ∧ ∀ l ∈ limits, n ≤ l

theorem IsLowest.capped {n : Nat} {limits : List Nat} (h : IsLowest n limits) (limit : Option Nat) :
    IsLowest (capped n limit) (limits ++ limit.toList) := by
  obtain ⟨hmem, hle⟩ := h
  cases limit with
  | none =>
    rw [Machine.capped, Option.getD_none, Nat.min_self, Option.toList_none, List.append_nil]
    exact ⟨hmem, hle⟩
  | some l =>
    rw [Machine.capped, Option.getD_some, Option.toList_some]
    refine ⟨?_, fun k hk => ?_⟩
    · obtain h | h := Nat.le_total n l
      · rw [Nat.min_eq_left h]
        exact List.mem_append_left _ hmem
      · rw [Nat.min_eq_right h]
        exact List.mem_append_right _ List.mem_cons_self
    · obtain hk | hk := List.mem_append.mp hk
      · exact (Nat.min_le_left _ _).trans (hle k hk)
      · exact List.mem_singleton.mp hk ▸ Nat.min_le_right _ _

theorem isLowest_min (m n : Nat) : IsLowest (min m n) [m, n] := by
  refine ⟨?_, by simp⟩
  obtain h | h := Nat.le_total m n
  · simp [Nat.min_eq_left h]
  · simp [Nat.min_eq_right h]

theorem State.horizonLimit_toList (s : State) : s.horizonLimit.toList =
    if s.part.state = .mute ∨ s.part.state.isGather = true then
      [if s.part.horizon = .expired then 0 else s.cfg.floorLevel] else [] := by
  split_ifs with h h'
  · rw [State.horizonLimit_of_applies h, if_pos h', Option.toList_some]
  · rw [State.horizonLimit_of_applies h, if_neg h', Option.toList_some]
  · rw [State.horizonLimit_eq_none h, Option.toList_none]

theorem State.sagLimit_toList (s : State) : s.sagLimit.toList =
    if s.sense.sagHold ≠ none then [s.cfg.floorLevel] else [] := by
  unfold State.sagLimit
  cases s.sense.sagHold <;> rfl

theorem State.lockoutLimit_toList (s : State) : s.lockoutLimit.toList =
    if s.sense.lockout ≠ none then [0] else [] := by
  unfold State.lockoutLimit
  cases s.sense.lockout <;> rfl

theorem State.stateLimit_toList (s : State) : s.stateLimit.toList =
    if s.power.state ≠ .run ∨ s.part.state = .start ∨ s.part.state = .sleep ∨
      s.part.state.isHalted = true then [0] else [] := by
  split_ifs with h
  · rw [State.stateLimit_of_stateLimited h, Option.toList_some]
  · rw [State.stateLimit, if_neg (by simpa [or_assoc] using h), Option.toList_none]

/-- Settles O55: the target as a minimum over lists, and the three cases of following it. -/
theorem targetIsTheLowestLimitAndIsFollowed : Obligations.TargetIsTheLowestLimitAndIsFollowed := by
  intro s
  refine ⟨?_, fun hcut => ?_, fun hramp => ?_, fun heq => ?_⟩
  · rw [← s.horizonLimit_toList, ← s.sagLimit_toList, ← s.lockoutLimit_toList, ← s.stateLimit_toList]
    exact ((((isLowest_min _ _).capped _).capped _).capped _).capped _
  · have hfollow : s.follow = s.cutTo s.target := if_pos hcut
    rw [hfollow]
    exact ⟨rfl, rfl, fun cutSince hconverting => by
      rw [State.cutTo_sense]
      simp [hconverting, Converter.noteCut]⟩
  · have hfollow : s.follow = { s with drive := { s.drive with ramp := s.drive.ramp.start } } := by
      rw [State.follow, if_neg hramp.not_gt, if_pos hramp]
    rw [hfollow]
    refine ⟨rfl, rfl, fun hstopped => ?_, fun hruns => ?_, rfl⟩
    · simp [hstopped, RampTimer.start]
    · cases hr : s.drive.ramp with
      | stopped => exact absurd hr hruns
      | _ => rfl
  · have hfollow : s.follow = { s with drive := { s.drive with ramp := .stopped } } := by
      rw [State.follow, if_neg heq.not_gt, if_neg heq.not_lt]
    rw [hfollow]
    exact ⟨rfl, rfl⟩

/-! ### Decisions at a change of the want (R107) -/

theorem State.decideSince_of_want {s before : State} (h : s.wantLevel ≠ before.wantLevel) :
    s.decideSince before = s.decideDemand := if_neg fun hsame => h hsame.1

theorem State.decideSince_of_same {s before : State} (hwant : s.wantLevel = before.wantLevel)
    (hstate : s.part.state = before.part.state) (hpower : s.power.state = before.power.state) :
    s.decideSince before = s := if_pos ⟨hwant, hstate, hpower⟩

/-- A decision or none: the outbox alone changes, and no request is lost. -/
theorem State.decideSince_line (s before : State) : (s.decideSince before).line =
    { s.line with outbox := (s.decideSince before).line.outbox } := by
  unfold State.decideSince
  split_ifs
  · rfl
  · exact s.decideDemand_line

theorem State.decideSince_has {s : State} {k : FrameKind} (before : State)
    (h : s.line.outbox.has k = true) : (s.decideSince before).line.outbox.has k = true := by
  unfold State.decideSince
  split_ifs
  · exact h
  · exact State.decideDemand_has h

@[simp] theorem State.decideSince_wantLevel (s before : State) :
    (s.decideSince before).wantLevel = s.wantLevel :=
  State.wantLevel_congr (by simp) (by simp) (by simp) (by simp)

/-- Where the want has changed, what is due is in the outbox (R107 to R109). -/
theorem State.decideSince_places {s before : State} (h : s.wantLevel ≠ before.wantLevel) :
    ((s.decideSince before).react.releaseDue = true →
        (s.decideSince before).react.line.outbox.release = true) ∧
      ((s.decideSince before).react.claimDue = true →
        (s.decideSince before).react.line.outbox.claim = true) := by
  rw [State.decideSince_of_want h, State.decideDemand_react_releaseDue,
    State.decideDemand_react_claimDue, State.react_line, State.decideDemand_release,
    State.decideDemand_claim]
  exact ⟨fun hdue => by rw [hdue, Bool.or_true], fun hdue => by rw [hdue, Bool.or_true]⟩

/-! ### The demand pins (R104 to R107, R151) -/

/-- The station as a sample has left its Demand Unit. -/
def State.sampled (s : State) (pins : DemandLevel) (high : Bool) : State :=
  { s with demand := (s.demand.sampleLevel pins).sampleInhibit high }

/-- The return from LISTEN before the note and the request (R151). -/
theorem State.leaveListen_of_wants {s : State} (hlisten : s.power.state = .listen)
    (hwant : s.wantLevel ≠ 0) : s.leaveListen = State.place
      { State.startPeriods { s with power := { s.power with state := .run, dormantTimer := 0 } } with
        part := { s.part with reannouncePending := true } } .plain := by
  have hended : s.endListen =
      State.startPeriods { s with power := { s.power with state := .run, dormantTimer := 0 } } :=
    if_pos hlisten
  unfold State.leaveListen
  rw [if_pos ⟨hlisten, hwant⟩, hended, State.startPeriods_part]

theorem State.leaveListen_of_not {s : State} (h : s.power.state ≠ .listen ∨ s.wantLevel = 0) :
    s.leaveListen = s := if_neg fun ⟨hlisten, hwant⟩ => h.elim (· hlisten) hwant

/-- The return from LISTEN writes the power state, the note, the periods and the outbox. -/
theorem State.leaveListen_keeps (s : State) : SameSetup s s.leaveListen ∧ SameTable s s.leaveListen ∧
    s.leaveListen.demand = s.demand ∧ s.leaveListen.monitor = s.monitor ∧
      s.leaveListen.line = { s.line with outbox := s.leaveListen.line.outbox } ∧
      s.leaveListen.wantLevel = s.wantLevel := by
  by_cases h : s.power.state = .listen ∧ s.wantLevel ≠ 0
  · rw [State.leaveListen_of_wants h.1 h.2]
    refine ⟨by constructor <;> simp, ⟨by simp, by simp⟩, by simp, by simp, ?_, ?_⟩
    · rw [State.place_eq]
      simp
    · exact State.wantLevel_congr (by simp) (by simp) (by simp) (by simp)
  · rw [State.leaveListen_of_not ((not_and_or.mp h).imp id not_not.mp)]
    exact ⟨⟨rfl, rfl, rfl, rfl⟩, ⟨rfl, rfl⟩, rfl, rfl, rfl, rfl⟩

/-- Settles O50: the sample, the return from LISTEN, the decision. -/
theorem demandSampleDebouncesAndDecides : Obligations.DemandSampleDebouncesAndDecides := by
  intro pins high s hrun
  obtain ⟨hsetup, htable, hdemand, hmonitor, hline, hwant⟩ := (s.sampled pins high).leaveListen_keeps
  have hafter : ((s.sampled pins high).leaveListen.decideSince s).react.demand =
      { (s.sampled pins high).demand with patience :=
        ((s.sampled pins high).leaveListen.decideSince s).react.demand.patience } := by
    rw [State.react_demand, State.decideSince_demand, hdemand]
  have hwants : ((s.sampled pins high).leaveListen.decideSince s).react.wantLevel =
      (s.sampled pins high).wantLevel := by rw [State.react_wantLevel, State.decideSince_wantLevel, hwant]
  dsimp only
  refine ⟨((s.sampled pins high).leaveListen.decideSince s).react, if_pos hrun, ?_, ?_, ?_,
    fun hhigh => ?_, fun hhigh => ?_, fun hlisten hnonzero => ?_, fun hstays => ?_, fun hchanged => ?_,
    fun hawake hsame => ?_, State.react_output_le_target _, ?_, ?_, ⟨?_, ?_⟩, ?_⟩
  · rw [hafter]
    cases high <;> rfl
  · rw [hafter]
    cases high <;> rfl
  · rw [hafter]
    cases high <;> rfl
  · rw [hafter, hhigh]
    exact ⟨rfl, rfl⟩
  · rw [hafter, hhigh]
    exact ⟨rfl, rfl⟩
  · obtain ⟨hperiod, hsettling⟩ := State.startPeriods_started { s.sampled pins high with
      power := { s.power with state := .run, dormantTimer := 0 } }
    have hleaves : (s.sampled pins high).leaveListen = _ :=
      State.leaveListen_of_wants hlisten (hwants ▸ hnonzero)
    refine ⟨by simp [hleaves], by simp [hleaves], by simp [hleaves], ?_,
      State.react_converter_of_settling ?_, fun hactive => ?_⟩
    · rw [State.react_period, State.decideSince_drive, hleaves, State.place_drive]
      exact hperiod
    · rw [State.decideSince_sense, hleaves, State.place_sense]
      exact hsettling
    · rw [State.react_line]
      refine Outbox.has_announce.mp (State.decideSince_has s ?_)
      rw [hleaves, State.place_outbox_of_activeRun ?_ (by decide)]
      · rfl
      · simp [State.activeRun, State.sampled, hactive]
  · have hkept : (s.sampled pins high).leaveListen = s.sampled pins high :=
      State.leaveListen_of_not (hstays.imp id fun h => hwants.symm.trans h)
    rw [State.react_power_state, State.react_part, State.decideSince_power, State.decideSince_part, hkept]
    exact ⟨rfl, rfl⟩
  · refine State.decideSince_places ?_
    rwa [hwant, ← hwants]
  · have hkept : (s.sampled pins high).leaveListen = s.sampled pins high :=
      State.leaveListen_of_not (.inl hawake)
    rw [hkept, State.decideSince_of_same (hwants.symm.trans hsame) rfl rfl, State.react_line]
    rfl
  · rw [State.react_line, State.decideSince_line, hline]
    rfl
  · rw [State.react_monitor, State.decideSince_monitor, hmonitor]
    rfl
  · rw [State.react_table, State.decideSince_table, htable.table]
    rfl
  · rw [State.react_lineCount, State.decideSince_lineCount, htable.lineCount]
    rfl
  · have hsampled : SameSetup s (s.sampled pins high) := ⟨rfl, rfl, rfl, rfl⟩
    exact (hsampled.trans hsetup).trans ((Quiet.decideSince _ _).trans (.react _)).setup

end Sys2Proof.Machine
end

section
/-! The PWM period, the converter's results, the lockout and the sag hold (O51 to O54; R128, R131, R136 to
R145). -/

namespace Sys2Proof.Machine

/-! ### The PWM period (R128, R131, R136, R137) -/

/-- A ramp step moves the Load Drive alone. -/
theorem State.rampAtBoundary_eq (s : State) (sinceStart : Nat) :
    s.rampAtBoundary sinceStart = { s with drive := (s.rampAtBoundary sinceStart).drive } := by
  obtain ⟨-, hstays⟩ | ⟨time, -, ⟨-, -, hraises⟩ | ⟨-, hruns⟩⟩ := s.rampAtBoundary_cases sinceStart
  · rw [hstays]
  · rw [hraises]
    rfl
  · rw [hruns]

theorem State.boundary_drive (s : State) (sinceStart : Nat) : (s.boundary sinceStart).drive =
    { (s.rampAtBoundary sinceStart).drive with
      period := some
        { onTime := periodTime s.cfg.pwmCode * (s.rampAtBoundary sinceStart).drive.output / s.cfg.maxLevel
          elapsed := 0 }
      gate := decide (0 < (s.rampAtBoundary sinceStart).drive.output) } := by
  rw [State.boundary, State.scheduleAtBoundary_drive, State.beginPeriod_drive, State.onTimeAt,
    State.rampAtBoundary_cfg]

/-- The schedule reads nothing of the Load Drive. -/
theorem State.scheduleAtBoundary_sense_congr {s t : State} (hsense : t.sense = s.sense)
    (hlimit : t.overdrawLimit = s.overdrawLimit) (first : Bool) :
    (t.scheduleAtBoundary first).sense = (s.scheduleAtBoundary first).sense := by
  unfold State.scheduleAtBoundary
  rw [hsense, hlimit]
  dsimp only
  split_ifs <;> rfl

theorem State.boundary_sense (s : State) (sinceStart : Nat) :
    (s.boundary sinceStart).sense = (s.scheduleAtBoundary false).sense := by
  refine State.scheduleAtBoundary_sense_congr (by simp) ?_ false
  simp [State.overdrawLimit, State.ownHolding, State.ownEntry]

/-- A boundary moves the Load Drive and the Sense Unit. -/
theorem State.boundary_eq (s : State) (sinceStart : Nat) : s.boundary sinceStart =
    { s with drive := (s.boundary sinceStart).drive, sense := (s.boundary sinceStart).sense } := by
  have hschedule : ∀ u : State, u.scheduleAtBoundary false =
      { u with sense := (u.scheduleAtBoundary false).sense } := by
    intro u
    unfold State.scheduleAtBoundary
    dsimp only
    split_ifs <;> rfl
  unfold State.boundary
  rw [hschedule, State.rampAtBoundary_eq]
  rfl

/-- What a boundary does where the ramp timer stands at a time (R128). -/
theorem State.rampAtBoundary_of_time {s : State} {sinceStart time : Nat}
    (h : s.drive.ramp.timeAt (periodTime s.cfg.pwmCode) sinceStart = some time) :
    (s.drive.output < s.target → 8000 * s.cfg.rampStep ≤ time →
      (s.rampAtBoundary sinceStart).drive.output = s.drive.output + 1 ∧
      (s.rampAtBoundary sinceStart).drive.ramp =
        if s.drive.output + 1 < s.target then .running 0 else .stopped) ∧
    (s.target ≤ s.drive.output ∨ time < 8000 * s.cfg.rampStep →
      (s.rampAtBoundary sinceStart).drive.output = s.drive.output ∧
      (s.rampAtBoundary sinceStart).drive.ramp = .running time) := by
  have hstep : s.rampStepTime = 8000 * s.cfg.rampStep := Nat.mul_comm _ _
  unfold State.rampAtBoundary
  rw [h]
  dsimp only
  rw [hstep]
  refine ⟨fun hbelow hdue => ?_, fun hstays => ?_⟩
  · rw [if_pos ⟨hbelow, hdue⟩]
    exact ⟨rfl, rfl⟩
  · rw [if_neg fun ⟨hbelow, hdue⟩ => hstays.elim (not_le.mpr hbelow) (not_lt.mpr hdue)]
    exact ⟨rfl, rfl⟩

/-- Settles O51: the ramp, the duty and the schedule of a boundary; the end of an on-time. -/
theorem periodBoundarySetsDutyAndConverts : Obligations.PeriodBoundarySetsDutyAndConverts := by
  refine ⟨fun sinceStart s hrun hperiod => ?_, fun p s hrun hperiod hgate hshort => ?_⟩
  · have hsome : s.drive.period.isSome = true := Option.isSome_iff_ne_none.mpr hperiod
    have hdrive := s.boundary_drive sinceStart
    have hsense := s.boundary_sense sinceStart
    have houtput : (s.boundary sinceStart).drive.output = (s.rampAtBoundary sinceStart).drive.output := by
      rw [hdrive]
    have hramp : (s.boundary sinceStart).drive.ramp = (s.rampAtBoundary sinceStart).drive.ramp := by
      rw [hdrive]
    dsimp only
    refine ⟨s.boundary sinceStart, if_pos (by simp [hrun, hsome]), fun hstarted => ?_,
      fun time hruns => ?_, fun hstopped => ?_, ?_, ?_, fun hslot => ?_, fun hslot => ?_,
      s.boundary_eq sinceStart⟩
    · rw [houtput, hramp]
      exact State.rampAtBoundary_of_time (by rw [hstarted]; rfl)
    · rw [houtput, hramp]
      exact State.rampAtBoundary_of_time (by rw [hruns]; rfl)
    · have hstays : s.rampAtBoundary sinceStart = s := by
        unfold State.rampAtBoundary
        rw [hstopped]
        rfl
      rw [houtput, hramp, hstays]
      exact ⟨rfl, hstopped⟩
    · rw [hdrive]
    · rw [hdrive]
      exact decide_eq_true_iff
    · rw [hsense]
      simp [State.scheduleAtBoundary, hslot]
    · have hother : s.sense.schedule ≠ 7 := hslot.ne
      rw [hsense]
      simp [State.scheduleAtBoundary, hother]
      rfl
  · show execOnTimeElapsed s = _
    unfold execOnTimeElapsed
    rw [hperiod]
    exact if_pos (by simp [hrun, hgate, hshort])

/-! ### What the reactions do to the Sense Unit (R127, R139) -/

theorem State.react_sense (s : State) : s.react.sense =
    if s.target < s.drive.output then
      { s.sense with blanking := 2, converter := s.sense.converter.noteCut }
    else s.sense := by
  have hfollow : s.restPatience.follow.sense = if s.target < s.drive.output then
      { s.sense with blanking := 2, converter := s.sense.converter.noteCut } else s.sense := by
    unfold State.follow
    rw [State.restPatience_target, State.restPatience_drive]
    split_ifs <;> simp
  rw [State.react, State.restIdle_sense, hfollow]

theorem State.react_overdrawRun (s : State) : s.react.sense.overdrawRun = s.sense.overdrawRun := by
  rw [State.react_sense]
  split_ifs <;> rfl

theorem State.react_sagRun (s : State) : s.react.sense.sagRun = s.sense.sagRun := by
  rw [State.react_sense]
  split_ifs <;> rfl

/-- A cut leaves an idle converter idle. -/
theorem State.react_converter_of_idle {s : State} (h : s.sense.converter = .idle) :
    s.react.sense.converter = .idle := by
  rw [State.react_sense]
  split_ifs
  · rw [h]
    rfl
  · exact h

/-! ### ISENSE results (R138 to R140) -/

theorem exec_conversionReady_isense {s : State} {cutSince : Bool} (hrun : s.settledRunning = true)
    (hconverting : s.sense.converter = .converting (.isense cutSince)) (code : ConverterCode) :
    exec (.conversionReady code) s = .next (s.endConversion.isenseResult cutSince code.val) := by
  show execConversionReady code s = _
  unfold execConversionReady
  rw [if_pos hrun, hconverting]

/-- A tripped station before the decision (R140). -/
def State.tripped (s : State) : State :=
  { s with
    sense := { s.sense with overdrawRun := 0, lockout := some s.cfg.lockoutTime }
    monitor := { s.monitor with
      flags := { s.monitor.flags with overdraw := true }
      counters := { s.monitor.counters with
        overdrawTrips := min 65535 (s.monitor.counters.overdrawTrips + 1) } } }

theorem State.trip_eq (s : State) : s.trip = (s.tripped.decideSince s).react := rfl

/-- In lockout nothing is wanted (R106, R140). -/
theorem State.wantLevel_of_lockout {s : State} (h : s.sense.lockout.isSome = true) :
    s.wantLevel = 0 := by
  simp [State.wantLevel, h]

theorem State.decideSince_of_not_activeRun {s : State} (h : s.activeRun = false) (before : State) :
    s.decideSince before = s := by
  unfold State.decideSince
  split_ifs
  · rfl
  · exact State.decideDemand_of_not_activeRun h

/-- The trip: the want is 0 at once, the output is cut, and what is held is given up (R107, R140). -/
theorem State.trip_outcome (s : State) :
    s.trip.wantLevel = 0 ∧ s.trip.drive.output = 0 ∧
      (0 < s.drive.output → s.trip.drive.gate = false ∧ s.trip.sense.blanking = 2) ∧
      (s.drive.output = 0 → s.trip.sense.blanking = s.sense.blanking) ∧
      (s.activeRun = true → s.wantLevel ≠ 0 → 0 < s.ownHolding →
        s.trip.line.outbox.release = true) ∧
      (s.activeRun = false → s.trip.line = s.line) := by
  have hwant : s.tripped.wantLevel = 0 := State.wantLevel_of_lockout rfl
  have htarget : (s.tripped.decideSince s).target = 0 := by
    refine Nat.le_zero.mp (((s.tripped.decideSince s).target_le_levels.trans (Nat.min_le_right _ _)).trans ?_)
    rw [State.decideSince_wantLevel, hwant]
  have hdrive : (s.tripped.decideSince s).drive = s.drive := by
    rw [State.decideSince_drive]
    rfl
  have hsense : (s.tripped.decideSince s).sense.blanking = s.sense.blanking := by
    rw [State.decideSince_sense]
    rfl
  rw [State.trip_eq]
  refine ⟨by rw [State.react_wantLevel, State.decideSince_wantLevel, hwant], ?_, fun hdriven => ⟨?_, ?_⟩,
    fun hzero => ?_, fun hactive hwanted hheld => ?_, fun hactive => ?_⟩
  · rw [State.react_output, htarget, Nat.min_zero]
  · rw [State.react_gate, htarget, hdrive, decide_eq_false (not_le.mpr hdriven), Bool.and_false]
  · rw [State.react_sense, if_pos (by rwa [htarget, hdrive])]
  · rw [State.react_sense, if_neg (by rw [htarget, hdrive, hzero]; decide), hsense]
  · have hchanged : s.tripped.wantLevel ≠ s.wantLevel := by
      rw [hwant]
      exact Ne.symm hwanted
    refine (State.decideSince_places hchanged).1 ?_
    rw [State.decideSince_of_want hchanged, State.decideDemand_react_releaseDue]
    have hactive' : s.tripped.activeRun = true := hactive
    have hheld' : 0 < s.tripped.ownHolding := hheld
    simp [State.releaseDue, State.wantUnits, hwant, hactive', hheld']
  · have hidle : s.tripped.activeRun = false := hactive
    rw [State.react_line, State.decideSince_of_not_activeRun hidle]
    rfl

/-- What the trip writes beside the want, the drive and the outbox (R140). -/
theorem State.trip_keeps (s : State) :
    SameSetup s s.trip ∧ SameTable s s.trip ∧ s.trip.part = s.part ∧
      s.trip.monitor = s.tripped.monitor ∧ s.trip.sense.overdrawRun = 0 ∧
      s.trip.sense.lockout = some s.cfg.lockoutTime ∧
      (s.sense.converter = .idle → s.trip.sense.converter = .idle) := by
  have hquiet := (Quiet.decideSince s.tripped s).trans (.react _)
  rw [State.trip_eq]
  refine ⟨⟨hquiet.rst, hquiet.loader, hquiet.config, hquiet.pending⟩, ⟨hquiet.table, by simp; rfl⟩,
    by simp; rfl, by simp, ?_, by simp; rfl, fun hidle => State.react_converter_of_idle ?_⟩
  · rw [State.react_overdrawRun, State.decideSince_sense]
    rfl
  · rw [State.decideSince_sense]
    exact hidle

/-- Settles O52: by the blanking, the limit and the run. -/
theorem overdrawRunsAndTrips : Obligations.OverdrawRunsAndTrips := by
  intro code cutSince limit s hrun hconverting hlimit
  have hexec := exec_conversionReady_isense hrun hconverting code
  have hlatched : s.endConversion.sense.limit.getD code.val = limit := by
    show s.sense.limit.getD code.val = limit
    rw [hlimit]
    rfl
  unfold State.isenseResult at hexec
  rw [hlatched] at hexec
  refine ⟨fun hblanked => ?_, fun hclear hwithin => ?_, fun hclear habove hshort => ?_,
    fun hclear habove hthird => ?_⟩
  · exact hexec.trans (congrArg _ (if_pos hblanked))
  · have hcompared : ¬ (0 < s.endConversion.sense.blanking ∧ cutSince = false) := hclear
    rw [if_neg hcompared, if_pos hwithin] at hexec
    exact hexec
  · have hcompared : ¬ (0 < s.endConversion.sense.blanking ∧ cutSince = false) := hclear
    rw [if_neg hcompared, if_neg (not_le.mpr habove)] at hexec
    exact hexec.trans (congrArg _ (if_pos (Nat.succ_lt_succ hshort)))
  · have hcompared : ¬ (0 < s.endConversion.sense.blanking ∧ cutSince = false) := hclear
    have hlong : ¬ s.endConversion.sense.overdrawRun + 1 < 3 := by
      show ¬ s.sense.overdrawRun + 1 < 3
      omega
    rw [if_neg hcompared, if_neg (not_le.mpr habove), if_neg hlong] at hexec
    obtain ⟨hwant, houtput, hcut, hstill, hrelease, hline⟩ := s.endConversion.trip_outcome
    obtain ⟨hsetup, htable, hpart, hmonitor, hrun, hlockout, hidle⟩ := s.endConversion.trip_keeps
    exact ⟨_, hexec, hrun, hlockout, hidle rfl, hwant, houtput, hcut, hstill, by rw [hmonitor]; rfl,
      by rw [hmonitor]; rfl, hrelease, hline, hpart,
      ⟨htable.table, htable.lineCount⟩,
      ⟨hsetup.rst, hsetup.loader, hsetup.config, hsetup.pending⟩, .of_monitor hmonitor⟩

/-! ### VSENSE results (R142, R143) -/

theorem exec_conversionReady_vsense {s : State} (hrun : s.settledRunning = true)
    (hconverting : s.sense.converter = .converting .vsense) (code : ConverterCode) :
    exec (.conversionReady code) s = .next (s.endConversion.vsenseResult code.val) := by
  show execConversionReady code s = _
  unfold execConversionReady
  rw [if_pos hrun, hconverting]

/-- A station that has detected local sag, before the reactions (R143). -/
def State.sagged (s : State) : State :=
  { s with
    sense := { s.sense with sagRun := 0, sagHold := some s.cfg.sagHoldTime }
    line := { s.line with outbox :=
      if s.sense.sagHold = none ∧ s.activeRun = true then s.line.outbox.add .sag else s.line.outbox }
    monitor := { s.monitor with
      flags := { s.monitor.flags with sag := true }
      counters := { s.monitor.counters with
        localSags := min 65535 (s.monitor.counters.localSags + 1) } } }

theorem State.localSag_eq (s : State) : s.localSag = s.sagged.react := by
  unfold State.localSag State.sagged
  dsimp only
  cases hhold : s.sense.sagHold with
  | some time =>
    rw [Option.isSome_some, if_pos rfl, if_neg fun h => Option.some_ne_none _ h.1]
    rfl
  | none =>
    rw [Option.isSome_none, if_neg Bool.false_ne_true]
    by_cases hactive : s.activeRun = true
    · have hplaced : ((s.raise .sag).count .localSags 1).place .sag = _ := if_pos hactive
      rw [hplaced, if_pos ⟨rfl, hactive⟩]
      rfl
    · have hrefused : ((s.raise .sag).count .localSags 1).place .sag = _ := if_neg hactive
      rw [hrefused, if_neg fun h => hactive h.2]
      rfl

/-- Settles O53: by the threshold and the run. -/
theorem sagRunsAndIsDetected : Obligations.SagRunsAndIsDetected := by
  intro code s hrun hconverting
  have hexec := exec_conversionReady_vsense hrun hconverting code
  unfold State.vsenseResult at hexec
  refine ⟨fun hclear => ?_, fun hbelow hfirst => ?_, fun hbelow hsecond => ?_⟩
  · exact hexec.trans (congrArg _ (if_pos hclear))
  · have hshort : s.endConversion.sense.sagRun + 1 < 2 := by
      show s.sense.sagRun + 1 < 2
      omega
    have hunder : ¬ 16 * s.endConversion.cfg.sagThreshold ≤ code.val := not_le.mpr hbelow
    rw [if_neg hunder, if_pos hshort] at hexec
    exact hexec.trans (by rw [show s.endConversion.sense.sagRun = 0 from hfirst]; rfl)
  · have hlong : ¬ s.endConversion.sense.sagRun + 1 < 2 := by
      show ¬ s.sense.sagRun + 1 < 2
      omega
    have hunder : ¬ 16 * s.endConversion.cfg.sagThreshold ≤ code.val := not_le.mpr hbelow
    rw [if_neg hunder, if_neg hlong, State.localSag_eq] at hexec
    have hfloor := State.target_le_floorLevel (s := s.endConversion.sagged.react) (by simp; rfl)
    rw [State.react_cfg] at hfloor
    refine ⟨_, hexec, by rw [State.react_sagRun]; rfl, by rw [State.react_sagHold]; rfl,
      (State.react_output_le_target _).trans hfloor, by rw [State.react_monitor]; rfl,
      by rw [State.react_monitor]; rfl, fun hfree hactive => ?_, fun hkept => ?_, by simp; rfl,
      ⟨by simp; rfl, by simp; rfl⟩, by constructor <;> simp <;> rfl,
      .of_monitor (s.endConversion.sagged.react_monitor)⟩
    · have hplaces : s.sense.sagHold = none ∧ s.activeRun = true := ⟨hfree, hactive⟩
      rw [State.react_line]
      exact congrArg (fun o => { s.line with outbox := o }) (if_pos hplaces)
    · have hrefuses : ¬ (s.sense.sagHold = none ∧ s.activeRun = true) := fun ⟨hfree, hactive⟩ =>
        hkept.elim (· hfree) fun hidle => absurd (hactive.symm.trans hidle) (by decide)
      rw [State.react_line]
      exact congrArg (fun o => { s.line with outbox := o }) (if_neg hrefuses)

/-! ### The lockout and the sag hold (R141, R145) -/

/-- Settles O54: what each limit's end leaves, and the decision where the want has changed. -/
theorem lockoutAndSagHoldEnd : Obligations.LockoutAndSagHoldEnd := by
  intro s hrun hpower
  refine ⟨fun hlocked => ?_, fun hheld => ?_⟩
  · have hsome : s.sense.lockout.isSome = true := Option.isSome_iff_ne_none.mpr hlocked
    have hwant : (State.decideSince { s with sense := { s.sense with lockout := none } } s).wantLevel =
        if s.demand.inhibit = true then 0 else min s.demand.level.val s.cfg.maxLevel := by
      rw [State.decideSince_wantLevel]
      simp [State.wantLevel, State.cfg]
    refine ⟨_, if_pos (by simp [hrun, hpower, hsome]), by simp, by rw [State.react_wantLevel, hwant],
      fun hchanged => ?_, ?_, by simp, by simp, by simp, ⟨by simp, by simp⟩, by constructor <;> simp⟩
    · rw [State.react_wantLevel, State.decideSince_wantLevel] at hchanged
      exact (State.decideSince_places hchanged).2
    · rw [State.react_output, State.decideSince_drive]
      exact Nat.min_le_left _ _
  · have hsome : s.sense.sagHold.isSome = true := Option.isSome_iff_ne_none.mpr hheld
    refine ⟨_, if_pos (by simp [hrun, hpower, hsome]), by simp, ?_, by simp, by simp, by simp, by simp,
      ⟨by simp, by simp⟩, by constructor <;> simp⟩
    rw [State.react_output]
    exact Nat.min_le_left _ _

end Sys2Proof.Machine
end

section
/-! The monitor port (O57 to O59; R155, R165 to R171). -/

namespace Sys2Proof.Machine

/-! ### The command that bits spell (R165, R166) -/

theorem bytesOf_of_short {bits : List Bit} (h : bits.length < 8) : bytesOf bits = [] := by
  unfold bytesOf
  split
  · simp only [List.length_cons] at h
    omega
  · rfl

theorem commandOf_of_short {bits : List Bit} (h : bits.length < 8) : commandOf bits = none := by
  unfold commandOf
  rw [bytesOf_of_short h]

theorem bytesOf_byteBits (b : Byte) : bytesOf (byteBits b) = [b] := by
  rw [← List.append_nil (byteBits b), bytesOf_byteBits_append]
  rfl

theorem commandOf_byteBits (b : Byte) : commandOf (byteBits b) =
    if b = 0x11 then some .status
    else if b = 0x12 then none
    else if b = 0x13 then some .counters
    else if b = 0x14 then some .events
    else if b = 0x1C then some .clear
    else some .unknown := by
  unfold commandOf
  rw [bytesOf_byteBits]
  exact if_neg (by simp)

theorem commandOf_twoBytes (b a : Byte) : commandOf (byteBits b ++ byteBits a) =
    if h : a.toNat < 32 then some (.entry ⟨a.toNat, h⟩) else some .unknown := by
  unfold commandOf
  rw [bytesOf_byteBits_append, bytesOf_byteBits]

/-- A byte and a part of the next spell no command yet. -/
theorem commandOf_byteBits_append {b : Byte} {rest : List Bit} (hsome : rest ≠ [])
    (hshort : rest.length < 8) : commandOf (byteBits b ++ rest) = none := by
  have hlength : (byteBits b ++ rest).length ≠ 8 := by
    have hpos := List.length_pos_iff.mpr hsome
    rw [List.length_append, byteBits_length]
    omega
  unfold commandOf
  rw [bytesOf_byteBits_append, bytesOf_of_short hshort]
  exact if_pos hlength

theorem commandOf_entry (a : Address) :
    commandOf (byteBits 0x12 ++ byteBits (addressByte a)) = some (.entry a) := by
  have ha : (addressByte a).toNat = a.val := by
    simp [addressByte]
    omega
  rw [commandOf_twoBytes, dif_pos (by rw [ha]; exact a.isLt)]
  simp [ha]

theorem commandOf_unknown {b : Byte} {a : Option Byte} (h : unknownBytes b a = true) :
    commandOf (unknownBits b a) = some .unknown := by
  cases a with
  | none =>
    have hknown : ∀ c ∈ knownCommandBytes, b ≠ c := by
      rintro c hc rfl
      simp [unknownBytes, hc] at h
    rw [unknownBits, Option.map_none, Option.getD_none, List.append_nil, commandOf_byteBits,
      if_neg (hknown _ (by decide)), if_neg (hknown _ (by decide)), if_neg (hknown _ (by decide)),
      if_neg (hknown _ (by decide)), if_neg (hknown _ (by decide))]
  | some a =>
    simp only [unknownBytes, Bool.and_eq_true, beq_iff_eq, decide_eq_true_eq] at h
    rw [unknownBits, Option.map_some, Option.getD_some, commandOf_twoBytes,
      dif_neg (by omega)]

/-! ### A command taken (R165 to R170) -/

theorem State.portOpen_iff {s : State} :
    s.portOpen = true ↔ s.rst.inForce = false ∧ s.power.state ≠ .dormant := by
  simp [State.portOpen]

theorem State.completes_of {s : State} {x : Transaction} {bits : List Bit}
    (hopen : s.portOpen = true) (hx : s.monitor.transaction = some x) (hfree : x.taken = none)
    (hprefix : x.received <+: bits) (hlength : x.received.length < bits.length) :
    s.completes bits = true := by
  unfold State.completes
  rw [hopen, hx]
  simp [hfree, hprefix, hlength]

/-- Settles O58: the command stands for the edges still to come. -/
theorem snapshotsAreCapturedWhole : Obligations.SnapshotsAreCapturedWhole := by
  intro x s hx hfree hrst hpower
  have hcompletes := fun bits => State.completes_of (bits := bits)
    (State.portOpen_iff.mpr ⟨hrst, hpower⟩) hx hfree
  exact ⟨fun hprefix hlength => if_pos (hcompletes _ hprefix hlength),
    fun a hprefix hlength => if_pos (hcompletes _ hprefix hlength),
    fun hprefix hlength => if_pos (hcompletes _ hprefix hlength)⟩

/-- Eight bits are the bits of the byte they spell. -/
theorem byteBits_flags (f : EventFlags) : byteBits f.byte = f.bits := by
  obtain ⟨shed, repaid, evicted, overdraw, sag, mute, gather, halt⟩ := f
  revert shed repaid evicted overdraw sag mute gather halt
  decide

/-- Settles O59: the reply of each command, and what it clears. -/
theorem eventsAndClearActWhenTaken : Obligations.EventsAndClearActWhenTaken := by
  intro x s hx hfree hrst hpower
  have hcompletes := fun bits => State.completes_of (bits := bits)
    (State.portOpen_iff.mpr ⟨hrst, hpower⟩) hx hfree
  refine ⟨fun hprefix hlength => ?_, fun hprefix hlength => if_pos (hcompletes _ hprefix hlength),
    fun b a hunknown hprefix hlength => if_pos ?_⟩
  · refine ⟨_, if_pos (hcompletes _ hprefix hlength), rfl, rfl, ?_, rfl, rfl, _, rfl, rfl, ?_⟩
    · simp [State.attn, State.take, EventFlags.any, EventFlags.clear]
    · rw [List.flatMap_cons, List.flatMap_nil, List.append_nil, byteBits_flags]
      rfl
  · rw [hunknown, hcompletes _ hprefix hlength]
    rfl

/-! ### The edges of SCK (R165) -/

theorem exec_sckEdge {s : State} {x : Transaction} (hopen : s.portOpen = true)
    (hx : s.monitor.transaction = some x) (rising : Bool) (mosi : Bit) :
    exec (.sckEdge rising mosi) s = .next (if rising then s.sckRise x mosi else s.sckFall x) := by
  show execSckEdge rising mosi s = _
  unfold execSckEdge
  rw [hx]
  exact if_pos hopen

theorem State.sckRise_of_none {s : State} {x : Transaction} {mosi : Bit} (hfree : x.taken = none)
    (h : commandOf (x.received ++ [mosi]) = none) : s.sckRise x mosi =
      { s with monitor := { s.monitor with
          transaction := some { x with received := x.received ++ [mosi] } } } := by
  unfold State.sckRise
  rw [if_neg (by simp [hfree])]
  dsimp only
  rw [h]

theorem State.sckRise_of_some {s : State} {x : Transaction} {mosi : Bit} {c : MonitorCommand}
    (hfree : x.taken = none) (h : commandOf (x.received ++ [mosi]) = some c) :
    s.sckRise x mosi = s.take (x.received ++ [mosi]) c := by
  unfold State.sckRise
  rw [if_neg (by simp [hfree])]
  dsimp only
  rw [h]

/-- The edge that completes a command takes it, with the bits that spell it (log 28). -/
theorem exec_sckEdge_completes {s : State} {x : Transaction} {mosi : Bit} {bits : List Bit}
    {c : MonitorCommand} (hopen : s.portOpen = true) (hx : s.monitor.transaction = some x)
    (hfree : x.taken = none) (hbits : x.received ++ [mosi] = bits) (hc : commandOf bits = some c) :
    exec (.sckEdge true mosi) s = .next (s.take bits c) ∧ s.completes bits = true := by
  subst hbits
  refine ⟨(exec_sckEdge hopen hx true mosi).trans (congrArg _ (State.sckRise_of_some hfree hc)),
    State.completes_of hopen hx hfree (List.prefix_append _ _) ?_⟩
  rw [List.length_append, List.length_singleton]
  exact Nat.lt_succ_self _

/-- Settles O57: the bits received decide what an edge does. -/
theorem transactionShiftsBits : Obligations.TransactionShiftsBits := by
  refine ⟨fun s hhigh hrst hpower => ?_, fun s hhigh hclosed => ?_, fun s hlow => ?_,
    fun rising mosi s hdead => ?_, fun s => rfl, fun x mosi s hx hrst hpower => ?_⟩
  · have hopen := State.portOpen_iff.mpr ⟨hrst, hpower⟩
    show execNcsFall s = _
    unfold execNcsFall
    rw [if_neg (by simp [hhigh]), if_pos hopen]
  · have hopen : ¬ s.portOpen = true := by
      rw [State.portOpen_iff, not_and_or, Bool.not_eq_false, not_not]
      exact hclosed
    show execNcsFall s = _
    unfold execNcsFall
    rw [if_neg (by simp [hhigh]), if_neg hopen]
  · exact if_pos hlow
  · cases hx : s.monitor.transaction with
    | none =>
      show execSckEdge rising mosi s = _
      unfold execSckEdge
      rw [hx]
    | some x =>
      have hopen : ¬ s.portOpen = true := by
        rw [State.portOpen_iff, not_and_or, Bool.not_eq_false, not_not]
        exact hdead.resolve_left (by simp [hx])
      show execSckEdge rising mosi s = _
      unfold execSckEdge
      rw [hx]
      exact if_neg hopen
  · have hopen := State.portOpen_iff.mpr ⟨hrst, hpower⟩
    have hrise := exec_sckEdge hopen hx true mosi
    have hwaits := fun hfree h => hrise.trans
      (congrArg _ (State.sckRise_of_none (s := s) (x := x) (mosi := mosi) hfree h))
    have htakes := fun bits c hfree hbits hc =>
      exec_sckEdge_completes (bits := bits) (c := c) (mosi := mosi) hopen hx hfree hbits hc
    refine ⟨exec_sckEdge hopen hx false mosi, fun htaken => ?_, fun hfree hshort => ?_,
      fun hfree hbits => ?_, fun hfree hbits => ?_, fun hfree hbegun hlength => ?_,
      fun a hfree hbits => ?_, fun hfree hbits => ?_, fun hfree hbits => ?_, fun hfree hbits => ?_,
      fun b a hfree hunknown hbits => ?_⟩
    · refine hrise.trans (congrArg _ ?_)
      exact if_pos (Option.isSome_iff_ne_none.mpr htaken)
    · refine hwaits hfree (commandOf_of_short ?_)
      rw [List.length_append, List.length_singleton]
      omega
    · obtain ⟨htake, hcompletes⟩ := htakes _ .status hfree hbits (commandOf_byteBits _)
      exact htake.trans (if_pos hcompletes).symm
    · exact hwaits hfree (hbits ▸ commandOf_byteBits _)
    · obtain ⟨rest, hrest⟩ := hbegun
      have hcount := congrArg List.length hrest
      rw [List.length_append, byteBits_length] at hcount
      refine hwaits hfree ?_
      rw [← hrest, List.append_assoc]
      refine commandOf_byteBits_append (by simp) ?_
      rw [List.length_append, List.length_singleton]
      omega
    · obtain ⟨htake, hcompletes⟩ := htakes _ (.entry a) hfree hbits (commandOf_entry a)
      exact htake.trans (if_pos hcompletes).symm
    · obtain ⟨htake, hcompletes⟩ := htakes _ .counters hfree hbits (commandOf_byteBits _)
      exact htake.trans (if_pos hcompletes).symm
    · obtain ⟨htake, hcompletes⟩ := htakes _ .events hfree hbits (commandOf_byteBits _)
      exact htake.trans (if_pos hcompletes).symm
    · obtain ⟨htake, hcompletes⟩ := htakes _ .clear hfree hbits (commandOf_byteBits _)
      exact htake.trans (if_pos hcompletes).symm
    · obtain ⟨htake, hcompletes⟩ := htakes _ .unknown hfree hbits (commandOf_unknown hunknown)
      exact htake.trans (if_pos (by rw [hunknown, hcompletes]; rfl)).symm

end Sys2Proof.Machine
end

section
/-! What the monitor images show (O60; R170, R174). -/

namespace Sys2Proof.Machine

/-! ### Bytes and bits read back -/

theorem byteOf_toNat {n : Nat} (h : n < 256) : (byteOf n).toNat = n := unitByte_toNat h

theorem bit_eq_one {b : Bool} : bit b = 1 ↔ b = true := by cases b <;> simp [bit]

theorem bit_le (b : Bool) : bit b ≤ 1 := Bool.toNat_le b

/-- The bits of the number a run of bits spells, most significant first. -/
theorem testBit_natOf (bits : List Bit) : ∀ (i : Nat) (h : i < bits.length),
    (natOf bits).testBit (bits.length - 1 - i) = bits[i] := by
  induction bits with
  | nil => exact fun i h => absurd h (Nat.not_lt_zero i)
  | cons b bs ih =>
    intro i h
    rw [natOf_cons, Nat.mul_comm, Nat.testBit_two_pow_mul_add _ (natOf_lt bs), List.length_cons,
      Nat.add_sub_cancel]
    cases i with
    | zero =>
      rw [Nat.sub_zero, if_neg (lt_irrefl _), Nat.sub_self, List.getElem_cons_zero]
      cases b <;> rfl
    | succ i =>
      have hi : i < bs.length := Nat.lt_of_succ_lt_succ h
      rw [if_pos (by omega), List.getElem_cons_succ, ← ih i hi]
      congr 1
      omega

theorem map_testBit_natOf (bits : List Bit) :
    (List.range bits.length).map (fun i => (natOf bits).testBit (bits.length - 1 - i)) = bits := by
  refine List.ext_getElem (by simp) fun i h _ => ?_
  rw [List.getElem_map, List.getElem_range]
  exact testBit_natOf bits i (by simpa using h)

theorem natOf_toNat {bits : List Bit} (h : bits.length ≤ 8) : (byteOf (natOf bits)).toNat = natOf bits :=
  byteOf_toNat ((natOf_lt bits).trans_le (Nat.pow_le_pow_right (by decide) h))

/-- A 16-bit number reads back from its two bytes. -/
theorem highLow_toNat {n : Nat} (h : n ≤ 65535) :
    256 * (byteOf (n / 256)).toNat + (byteOf n).toNat = n := by
  rw [byteOf_toNat (by omega), byteOf, BitVec.toNat_ofNat]
  omega

theorem map_highLow (ns : List Nat) (h : ∀ n ∈ ns, n ≤ 65535) :
    (List.range ns.length).map (fun i => 256 * ((ns.flatMap highLow).getD (2 * i) 0).toNat +
      ((ns.flatMap highLow).getD (2 * i + 1) 0).toNat) = ns := by
  induction ns with
  | nil => rfl
  | cons n ns ih =>
    obtain ⟨hn, hns⟩ := List.forall_mem_cons.mp h
    rw [List.length_cons, List.range_succ_eq_map, List.map_cons, List.map_map]
    refine congrArg₂ List.cons (highLow_toNat hn) ?_
    exact ih hns

/-! ### A body of fifteen bytes with its CRC-8 -/

theorem withCrc8_length {body : List Byte} (h : body.length = 15) : (withCrc8 body).length = 16 := by
  rw [withCrc8, List.length_append, h]
  rfl

theorem withCrc8_crc {body : List Byte} (h : body.length = 15) :
    (withCrc8 body).getD 15 0 = crc8 ((withCrc8 body).take 15) := by
  rw [withCrc8, List.take_left' h, List.getD_append_right _ _ _ _ h.le, h]
  rfl

/-! ### What the laws bound -/

theorem LoadLaw.budget_le {s : State} (hl : LoadLaw s) : s.cfg.budget ≤ 255 := by
  unfold State.cfg
  cases hc : s.config with
  | none => exact Nat.zero_le _
  | some c =>
    obtain ⟨-, -, hfits⟩ := hl.settled c hc
    exact hfits.budget

/-- No holding is above the budget, whether or not the entry is PRESENT (R10, R22). -/
theorem TableLaw.holding_le {s : State} (h : TableLaw s) (a : Address) : (s.table.at a).holding ≤ 255 := by
  have hheld := (s.table.share_le_held a).trans (h.budget.trans h.load.budget_le)
  by_cases hp : (s.table.at a).presence = .present
  · rwa [Entry.share_of_present hp] at hheld
  · rw [(h.lawful.entries a).cleared hp]
    exact Nat.zero_le _

theorem TableLaw.units_le {s : State} (h : TableLaw s) {a : Address} {d : DebtRecord}
    (hd : d ∈ (s.table.at a).debts) : d.units ≤ 255 := by
  have howed : d.units ≤ owed (s.table.at a).debts :=
    List.single_le_sum (fun _ _ => Nat.zero_le _) _ (List.mem_map_of_mem hd)
  exact howed.trans ((h.lawful.entries a).covered.trans (h.holding_le a))

theorem TableLaw.ownHolding_le {s : State} (h : TableLaw s) : s.ownHolding ≤ 255 :=
  (s.table.share_le_held s.own).trans (h.budget.trans h.load.budget_le)

theorem Table.presentCount_le (t : Table) : t.presentCount ≤ 32 :=
  List.countP_le_length

/-- The levels fit four bits (R162). -/
theorem OutputLaw.levels_le {s : State} (h : OutputLaw s) :
    s.drive.output ≤ 15 ∧ s.wantLevel ≤ 15 ∧ s.allowedLevel ≤ 15 := by
  obtain ⟨-, hmax, -⟩ := h.load.cfg_range
  have hallowed : s.allowedLevel ≤ 15 := (Nat.min_le_right _ _).trans hmax
  exact ⟨(h.within.trans s.target_le_allowedLevel).trans hallowed, s.wantLevel_le_maxLevel.trans hmax,
    hallowed⟩

theorem Participation.codes_le (p : Participation) :
    p.code ≤ 5 ∧ p.phaseCode ≤ 1 ∧ p.haltCode ≤ 3 := by
  cases p with
  | gather phase => cases phase <;> decide
  | halted cause => cases cause <;> decide
  | _ => decide

theorem PowerState.code_le (p : PowerState) : p.code ≤ 2 := by cases p <;> decide

theorem LoadStatus.code_le (l : LoadStatus) : l.code ≤ 3 := by cases l <;> decide

theorem causeCode_le (c : ResetCause) : causeCode c ≤ 3 := by cases c <;> decide

theorem Presence.code_le (p : Presence) : p.code ≤ 2 := by cases p <;> decide

/-! ### The entry image -/

/-- The creditor byte and the units byte of a record slot. -/
def slotCreditor (debts : List DebtRecord) (i : Nat) : Byte :=
  (debts[i]?.map fun d => addressByte d.creditor).getD 0

def slotUnits (debts : List DebtRecord) (i : Nat) : Byte :=
  (debts[i]?.map fun d => unitByte d.units).getD 0

theorem slotBytes_eq (debts : List DebtRecord) (i : Nat) :
    slotBytes debts i = [slotCreditor debts i, slotUnits debts i] := by
  unfold slotBytes slotCreditor slotUnits
  cases debts[i]? <;> rfl

theorem addressByte_toNat (a : Address) : (addressByte a).toNat = a.val := by
  rw [addressByte, BitVec.toNat_ofNat]
  omega

/-- A slot reads back as its record, and as 0 past the number of records. -/
theorem slot_reads {debts : List DebtRecord} (h : ∀ d ∈ debts, d.units ≤ 255) (i : Nat) :
    (∀ d, debts[i]? = some d →
      (slotCreditor debts i).toNat = d.creditor.val ∧ (slotUnits debts i).toNat = d.units) ∧
    (debts[i]? = none → (slotCreditor debts i).toNat = 0 ∧ (slotUnits debts i).toNat = 0) := by
  refine ⟨fun d hd => ?_, fun hnone => ?_⟩
  · have hunits := h d (List.mem_of_getElem? hd)
    rw [slotCreditor, slotUnits, hd]
    exact ⟨addressByte_toNat _, unitByte_toNat (by omega)⟩
  · rw [slotCreditor, slotUnits, hnone]
    exact ⟨rfl, rfl⟩

/-- Bytes 0 to 14 of an entry image (R174). -/
def Entry.imageBody (e : Entry) (a : Address) : List Byte :=
  [ byteOf (64 * e.presence.code + a.val), byteOf (16 * e.debts.length + e.cls.val),
    byteOf e.floor, byteOf e.want, byteOf e.holding,
    slotCreditor e.debts 0, slotUnits e.debts 0, slotCreditor e.debts 1, slotUnits e.debts 1,
    slotCreditor e.debts 2, slotUnits e.debts 2, slotCreditor e.debts 3, slotUnits e.debts 3,
    byteOf (e.age / 256), byteOf e.age ]

theorem State.entryImage_eq (s : State) (a : Address) :
    s.entryImage a = withCrc8 ((s.table.at a).imageBody a) := by
  unfold State.entryImage
  simp only [slotBytes_eq]
  rfl

/-- The entry image of an address, field by field. -/
theorem entryImage_reads {s : State} (hc : CountLaw s) (ht : TableLaw s) (a : Address) :
    let byte (i : Nat) : Nat := ((s.entryImage a).getD i 0).toNat
    let e := s.table.at a
    byte 0 / 64 = e.presence.code ∧ byte 0 % 64 = a.val ∧
      byte 1 / 16 = e.debts.length ∧ byte 1 % 16 = e.cls.val ∧
      byte 2 = e.floor ∧ byte 3 = e.want ∧ byte 4 = e.holding ∧
      (∀ i, i < 4 →
        (∀ d, e.debts[i]? = some d →
          byte (5 + 2 * i) = d.creditor.val ∧ byte (6 + 2 * i) = d.units) ∧
        (e.debts[i]? = none → byte (5 + 2 * i) = 0 ∧ byte (6 + 2 * i) = 0)) ∧
      256 * byte 13 + byte 14 = e.age := by
  intro byte e
  have hpresence := e.presence.code_le
  have hclass := e.cls.isLt
  have haddress := a.isLt
  have hfour : e.debts.length ≤ 4 := (ht.lawful.entries a).four
  obtain ⟨hfloor, hwant⟩ := hc.wants a
  have hholding := ht.holding_le a
  have hslot := slot_reads (debts := e.debts) fun d hd => ht.units_le hd
  have hbytes : ∀ i, byte i = ((withCrc8 (e.imageBody a)).getD i 0).toNat := fun i => by
    show ((s.entryImage a).getD i 0).toNat = _
    rw [State.entryImage_eq]
  have h0 : byte 0 = 64 * e.presence.code + a.val := (hbytes 0).trans (byteOf_toNat (by omega))
  have h1 : byte 1 = 16 * e.debts.length + e.cls.val := (hbytes 1).trans (byteOf_toNat (by omega))
  refine ⟨by omega, by omega, by omega, by omega, (hbytes 2).trans (byteOf_toNat (Nat.lt_succ_of_le hfloor)),
    (hbytes 3).trans (byteOf_toNat (Nat.lt_succ_of_le hwant)),
    (hbytes 4).trans (byteOf_toNat (Nat.lt_succ_of_le hholding)), fun i hi => ?_, ?_⟩
  · rw [hbytes, hbytes]
    interval_cases i
    · exact hslot 0
    · exact hslot 1
    · exact hslot 2
    · exact hslot 3
  · rw [hbytes, hbytes]
    exact highLow_toNat (hc.ages a)

/-! ### The status image -/

theorem State.freeByte_toNat {s : State} (hl : LoadLaw s) : s.freeByte.toNat =
    if s.config = none then 0 else s.cfg.budget - s.table.held := by
  have hbudget := hl.budget_le
  unfold State.freeByte State.cfg at *
  cases hc : s.config with
  | none => rfl
  | some c =>
    rw [hc] at hbudget
    have hfree : s.table.free c.budget ≤ 255 := (Nat.sub_le _ _).trans hbudget
    rw [if_neg (Option.some_ne_none c)]
    exact byteOf_toNat (Nat.lt_succ_of_le hfree)

theorem isSome_iff_ne_none_bit {α : Type} {o : Option α} : bit o.isSome = 1 ↔ o ≠ none :=
  bit_eq_one.trans Option.isSome_iff_ne_none

/-- Settles O60: each byte as the number it was made from, then each field of it. -/
theorem statusImageShowsTheStation : Obligations.StatusImageShowsTheStation := by
  intro s hc ht ho
  refine ⟨?_, fun a => ⟨?_, ?_, entryImage_reads hc ht a⟩, ?_, ?_⟩
  · intro byte o f
    obtain ⟨houtput, hwanted, hallowed⟩ := ho.levels_le
    obtain ⟨hcode, hphase, hhalt⟩ := s.part.state.codes_le
    have hpower := s.power.state.code_le
    have hclock := bit_le s.power.clockReady
    have hstatus := s.loader.status.code_le
    have hcause := causeCode_le s.rst.cause
    have hclass := s.loader.straps.cls.isLt
    have haddress := s.loader.straps.address.isLt
    have hlevel := s.demand.level.isLt
    have hadopted := bit_le s.lineCount.isSome
    have hfault := hc.fault
    have hpatience := hc.patience
    have hdepth : s.ownShedDepth ≤ 4 := ht.lawful.depths s.own
    have hpresent := s.table.presentCount_le
    have hfour : s.ownEntry.debts.length ≤ 4 := (ht.lawful.entries s.own).four
    obtain ⟨-, (hwant : s.ownEntry.want ≤ 255)⟩ := hc.wants s.own
    have h0 : byte 0 = 32 * s.part.state.code + 16 * s.part.state.phaseCode + 4 * s.power.state.code +
        2 * bit s.power.clockReady := byteOf_toNat (by omega)
    have h1 : byte 1 = 64 * s.loader.status.code + 16 * s.part.state.haltCode +
        4 * causeCode s.rst.cause + s.loader.straps.cls.val := byteOf_toNat (by omega)
    have h5 : byte 5 = 16 * s.demand.level.val + s.drive.output := byteOf_toNat (by omega)
    have h6 : byte 6 = natOf s.reasons := natOf_toNat (Nat.le_refl 8)
    have h8 : byte 8 = 128 * bit s.lineCount.isSome + s.line.faultCount := byteOf_toNat (by omega)
    have h11 : byte 11 = 64 * s.demand.patience + s.table.presentCount := byteOf_toNat (by omega)
    have h12 : byte 12 = natOf o.bits := natOf_toNat (show 6 ≤ 8 by decide)
    have h13 : byte 13 = natOf f.bits := natOf_toNat (Nat.le_refl 8)
    have h14 : byte 14 = 16 * s.wantLevel + s.allowedLevel := byteOf_toNat (by omega)
    have h4 : byte 4 = if s.ownEntry.presence = .present then s.ownEntry.want else 0 := by
      rw [← if_congr Entry.isPresent_iff rfl rfl]
      exact byteOf_toNat (by split_ifs <;> omega)
    have hrecords : (if s.ownEntry.presence = .present then s.ownEntry.debts.length else 0) ≤ 4 := by
      split_ifs
      · exact hfour
      · exact Nat.zero_le _
    have h10 : byte 10 = 16 * s.ownShedDepth +
        if s.ownEntry.presence = .present then s.ownEntry.debts.length else 0 := by
      rw [← if_congr Entry.isPresent_iff rfl rfl] at hrecords ⊢
      exact byteOf_toNat (by omega)
    have hbox : ∀ i (h : i < 6), (natOf o.bits).testBit (5 - i) = o.bits[i]'h := testBit_natOf o.bits
    refine ⟨withCrc8_length rfl, withCrc8_crc rfl, by omega, by omega, by omega, ?_, by omega, by omega,
      by omega, by omega, addressByte_toNat _, byteOf_toNat (Nat.lt_succ_of_le ht.ownHolding_le), h4,
      by omega, by omega, fun i hi => ?_, rfl, ?_, by omega, State.freeByte_toNat hc.load, by omega,
      by omega, by omega, by omega, h12 ▸ natOf_lt o.bits, ?_, ?_, ?_, ?_, ?_, ?_, ?_, by omega, by omega⟩
    · rw [← bit_eq_one (b := s.power.clockReady)]
      omega
    · rw [h6]
      exact testBit_natOf s.reasons i hi
    · rw [← isSome_iff_ne_none_bit]
      omega
    · rw [h12]
      have hrejoin : (natOf o.bits).testBit 5 = (o.announce == some .rejoin) := hbox 0 (by decide)
      rw [hrejoin, beq_iff_eq]
    · rw [h12]
      exact hbox 1 (by decide)
    · rw [h12]
      exact hbox 2 (by decide)
    · rw [h12]
      exact hbox 3 (by decide)
    · rw [h12]
      exact hbox 4 (by decide)
    · rw [h12]
      exact (Bool.eq_iff_iff.mp (hbox 5 (by decide))).trans Option.isSome_iff_ne_none
    · rw [h13]
      exact map_testBit_natOf f.bits
  · rw [State.entryImage_eq]
    exact withCrc8_length rfl
  · rw [State.entryImage_eq]
    exact withCrc8_crc rfl
  · rfl
  · obtain ⟨hconfirmed, hvoid, hown, hdissents, hshed, htrips, hsags, hevictions⟩ := hc.counters
    refine map_highLow [s.monitor.counters.framesConfirmed, s.monitor.counters.framesVoid,
      s.monitor.counters.ownConfirmed, s.monitor.counters.dissentsDriven, s.monitor.counters.timesShed,
      s.monitor.counters.overdrawTrips, s.monitor.counters.localSags,
      s.monitor.counters.evictEntries] ?_
    simp [hconfirmed, hvoid, hown, hdissents, hshed, htrips, hsags, hevictions]

end Sys2Proof.Machine
end
